-- ==== Sys2Proof/Word.lean ====
section
/-! DEFINITION. The word types of the Z380: R8 and R10 fix a byte of 8 bits, a word of 16 and a long word of 32. -/

namespace Sys2Proof

/-- R10: a byte, bits 7 to 0. -/
abbrev Byte := BitVec 8

/-- R10: a word, bits 15 to 0. -/
abbrev Word := BitVec 16

/-- R10: a long word, bits 31 to 0; also an address of either space (R100, R102). -/
abbrev Long := BitVec 32

end Sys2Proof
end

