-- ==== Sys2Proof/Syntax.lean ====
section
/-! DEFINITION. The abstract syntax: one constructor of `Instr` per row of `spec/opcode_table.json` (R167), with its operand
fields. A constructor's name spells the row's mnemonic: `Ind` is indirection, `Dir` a direct address, `IdxD` is (XY+d), `SpD`
is (SP+d), `Port` a port operand, `Alt` a primed twin, `Half` XYU or XYL, `Wop` the operand field of page ED CB. -/

namespace Sys2Proof

/-- R200: the 8-bit registers of field `r`. -/
inductive Reg8 where
  | b | c | d | e | h | l | a
  deriving DecidableEq, Repr

/-- R252: the pairs BC, DE, HL (`qq`, `pp`, `uu`). -/
inductive Pair where
  | bc | de | hl
  deriving DecidableEq, Repr

/-- R143: the Z80's pair field `dd`, `ss`, which counts SP among the pairs. -/
inductive Pair4 where
  | bc | de | hl | sp
  deriving DecidableEq, Repr

/-- R143: field `tt` of ADD XY,tt; code 10 is the index register itself. -/
inductive AddSrc where
  | bc | de | same | sp
  deriving DecidableEq, Repr

/-- R34, R142: the index register a DD or FD byte selects. -/
inductive Idx where
  | ix | iy
  deriving DecidableEq, Repr

/-- R143: the half of an index register: `u` is XY[15:8], `l` is XY[7:0]. -/
inductive Half where
  | u | l
  deriving DecidableEq, Repr

/-- R221: the source of LD XYU,s and LD XYL,s: a byte register other than H and L, or a half of the same index register. -/
inductive HalfSrc where
  | reg (r : Reg8)
  | half (h : Half)
  deriving DecidableEq, Repr

/-- R560, R511: the operand field of page ED CB (in the multiply and divide rows (HL) is not an operand). -/
inductive WordOp where
  | bc | de | indHl | hl | ix | iy
  deriving DecidableEq, Repr

/-- R49: the conditions; NV, V, NS and S are second spellings of PO, PE, P and M. -/
inductive Cond where
  | nz | z | nc | c | po | pe | p | m
  deriving DecidableEq, Repr

/-- R461 to R469: the bytes a decoder directive adds to the extendable field of the next instruction. -/
inductive Ext where
  /-- no byte -/
  | zero
  /-- one byte: an IB directive -/
  | ib
  /-- two bytes: an IW directive -/
  | iw
  deriving DecidableEq, Repr

/-- R144, R469: the displacement field `d`, 8 bits, or 16 or 24 under IB or IW. -/
inductive Disp where
  | d8 (v : BitVec 8)
  | d16 (v : BitVec 16)
  | d24 (v : BitVec 24)
  deriving DecidableEq, Repr

/-- R144, R469: the data or address field `nn`, 16 bits, or 24 or 32 under IB or IW. -/
inductive Imm where
  | i16 (v : BitVec 16)
  | i24 (v : BitVec 24)
  | i32 (v : BitVec 32)
  deriving DecidableEq, Repr

/-- One constructor per row of `spec/opcode_table.json`: first the rows with operand fields, then those without, each in the
table's order (compiled Lean numbers at most 244 constructors that hold fields). -/
inductive Instr where
  /-- R253: `LD p,nn` -/
  | ldDdNn (dd : Pair4) (nn : Imm)
  /-- R488: `INC p` -/
  | incDd (dd : Pair4)
  /-- R489: `DEC p` -/
  | decDd (dd : Pair4)
  /-- R390: `INC r` -/
  | incR (r : Reg8)
  /-- R392: `DEC r` -/
  | decR (r : Reg8)
  /-- R203: `LD r,n` -/
  | ldRN (r : Reg8) (n : BitVec 8)
  /-- R208: `LD (HL),n` -/
  | ldIndHlN (n : BitVec 8)
  /-- R484: `ADD HL,p` -/
  | addHlDd (dd : Pair4)
  /-- R607: `DJNZ e` -/
  | djnzE8 (e : BitVec 8)
  /-- R605: `JR e` -/
  | jrE8 (e : BitVec 8)
  /-- R606: `JR c,e` -/
  | jrCcE8 (cc : Cond) (e : BitVec 8)
  /-- R258: `LD (nn),HL` -/
  | ldDirNnHl (nn : Imm)
  /-- R255: `LD HL,(nn)` -/
  | ldHlDirNn (nn : Imm)
  /-- R219: `LD (nn),A` -/
  | ldDirNnA (nn : Imm)
  /-- R212: `LD A,(nn)` -/
  | ldADirNn (nn : Imm)
  /-- R202: `LD r,s` -/
  | ldRR (r : Reg8) (r' : Reg8)
  /-- R204: `LD r,(HL)` -/
  | ldRIndHl (r : Reg8)
  /-- R206: `LD (HL),r` -/
  | ldIndHlR (r : Reg8)
  /-- R382: `ADD A,r` -/
  | addAR (r : Reg8)
  /-- R382: `ADD A,n` -/
  | addAN (n : BitVec 8)
  /-- R383: `ADC A,r` -/
  | adcAR (r : Reg8)
  /-- R383: `ADC A,n` -/
  | adcAN (n : BitVec 8)
  /-- R384: `SUB r` -/
  | subR (r : Reg8)
  /-- R384: `SUB n` -/
  | subN (n : BitVec 8)
  /-- R385: `SBC A,r` -/
  | sbcAR (r : Reg8)
  /-- R385: `SBC A,n` -/
  | sbcAN (n : BitVec 8)
  /-- R386: `AND r` -/
  | andR (r : Reg8)
  /-- R386: `AND n` -/
  | andN (n : BitVec 8)
  /-- R387: `XOR r` -/
  | xorR (r : Reg8)
  /-- R387: `XOR n` -/
  | xorN (n : BitVec 8)
  /-- R388: `OR r` -/
  | orR (r : Reg8)
  /-- R388: `OR n` -/
  | orN (n : BitVec 8)
  /-- R389: `CP r` -/
  | cpR (r : Reg8)
  /-- R389: `CP n` -/
  | cpN (n : BitVec 8)
  /-- R625: `RET c` -/
  | retCc (cc : Cond)
  /-- R289: `POP q` -/
  | popQq (qq : Pair)
  /-- R602: `JP c,nn` -/
  | jpCcNn (cc : Cond) (nn : Imm)
  /-- R601: `JP nn` -/
  | jpNn (nn : Imm)
  /-- R623: `CALL c,nn` -/
  | callCcNn (cc : Cond) (nn : Imm)
  /-- R286: `PUSH q` -/
  | pushQq (qq : Pair)
  /-- R628: `RST t` -/
  | rstP (p : BitVec 3)
  /-- R622: `CALL nn` -/
  | callNn (nn : Imm)
  /-- R653: `OUT (n),A` -/
  | outPortNA (n : BitVec 8)
  /-- R651: `IN A,(n)` -/
  | inAPortN (n : BitVec 8)
  /-- R547: `RLC r` -/
  | rlcR (r : Reg8)
  /-- R548: `RRC r` -/
  | rrcR (r : Reg8)
  /-- R549: `RL r` -/
  | rlR (r : Reg8)
  /-- R550: `RR r` -/
  | rrR (r : Reg8)
  /-- R551: `SLA r` -/
  | slaR (r : Reg8)
  /-- R552: `SRA r` -/
  | sraR (r : Reg8)
  /-- R553: `SRL r` -/
  | srlR (r : Reg8)
  /-- R327: `EX r,r'` -/
  | exRRAlt (r : Reg8)
  /-- R581: `BIT b,r` -/
  | bitBR (b : BitVec 3) (r : Reg8)
  /-- R581: `BIT b,(HL)` -/
  | bitBIndHl (b : BitVec 3)
  /-- R583: `RES b,r` -/
  | resBR (b : BitVec 3) (r : Reg8)
  /-- R583: `RES b,(HL)` -/
  | resBIndHl (b : BitVec 3)
  /-- R582: `SET b,r` -/
  | setBR (b : BitVec 3) (r : Reg8)
  /-- R582: `SET b,(HL)` -/
  | setBIndHl (b : BitVec 3)
  /-- R487: `ADD XY,t` -/
  | addXyTt (y : Idx) (tt : AddSrc)
  /-- R270: `LD (p),XY` -/
  | ldIndPpXy (pp : Pair) (y : Idx)
  /-- R271: `LD XY,(p)` -/
  | ldXyIndPp (y : Idx) (pp : Pair)
  /-- R267: `LD XY,p` -/
  | ldXyPp (y : Idx) (pp : Pair)
  /-- R268: `LD p,XY` -/
  | ldPpXy (pp : Pair) (y : Idx)
  /-- R264: `LD p,(u)` -/
  | ldPpIndUu (pp : Pair) (uu : Pair)
  /-- R265: `LD (p),u` -/
  | ldIndPpUu (pp : Pair) (uu : Pair)
  /-- R266: `LD p,BC` -/
  | ldPpBc (pp : Pair)
  /-- R266: `LD p,DE` -/
  | ldPpDe (pp : Pair)
  /-- R266: `LD p,HL` -/
  | ldPpHl (pp : Pair)
  /-- R617: `DJNZ ee` -/
  | djnzE16 (e : BitVec 16)
  /-- R618: `DJNZ eee` -/
  | djnzE24 (e : BitVec 24)
  /-- R613: `JR ee` -/
  | jrE16 (e : BitVec 16)
  /-- R615: `JR eee` -/
  | jrE24 (e : BitVec 24)
  /-- R614: `JR c,ee` -/
  | jrCcE16 (cc : Cond) (e : BitVec 16)
  /-- R616: `JR c,eee` -/
  | jrCcE24 (cc : Cond) (e : BitVec 24)
  /-- R254: `LD XY,nn` -/
  | ldXyNn (y : Idx) (nn : Imm)
  /-- R260: `LD (nn),XY` -/
  | ldDirNnXy (nn : Imm) (y : Idx)
  /-- R257: `LD XY,(nn)` -/
  | ldXyDirNn (y : Idx) (nn : Imm)
  /-- R490: `INC XY` -/
  | incXy (y : Idx)
  /-- R490: `DEC XY` -/
  | decXy (y : Idx)
  /-- R390: `INC h` -/
  | incHalf (y : Idx) (h : Half)
  /-- R392: `DEC h` -/
  | decHalf (y : Idx) (h : Half)
  /-- R220: `LD h,n` -/
  | ldHalfN (y : Idx) (h : Half) (n : BitVec 8)
  /-- R390: `INC (XY+d)` -/
  | incIdxD (y : Idx) (d : Disp)
  /-- R392: `DEC (XY+d)` -/
  | decIdxD (y : Idx) (d : Disp)
  /-- R209: `LD (XY+d),n` -/
  | ldIdxDN (y : Idx) (d : Disp) (n : BitVec 8)
  /-- R339: `SWAP XY` -/
  | swapXy (y : Idx)
  /-- R678: `OUTW (C),nn` -/
  | outwPortCNn (nn : Imm)
  /-- R221: `LD h,s` -/
  | ldHalfS (y : Idx) (h : Half) (src : HalfSrc)
  /-- R222: `LD r,h` -/
  | ldRHalf (r : Reg8) (y : Idx) (h : Half)
  /-- R205: `LD r,(XY+d)` -/
  | ldRIdxD (r : Reg8) (y : Idx) (d : Disp)
  /-- R207: `LD (XY+d),r` -/
  | ldIdxDR (y : Idx) (d : Disp) (r : Reg8)
  /-- R382: `ADD A,h` -/
  | addAHalf (y : Idx) (h : Half)
  /-- R382: `ADD A,(XY+d)` -/
  | addAIdxD (y : Idx) (d : Disp)
  /-- R383: `ADC A,h` -/
  | adcAHalf (y : Idx) (h : Half)
  /-- R383: `ADC A,(XY+d)` -/
  | adcAIdxD (y : Idx) (d : Disp)
  /-- R384: `SUB h` -/
  | subHalf (y : Idx) (h : Half)
  /-- R384: `SUB (XY+d)` -/
  | subIdxD (y : Idx) (d : Disp)
  /-- R385: `SBC A,h` -/
  | sbcAHalf (y : Idx) (h : Half)
  /-- R385: `SBC A,(XY+d)` -/
  | sbcAIdxD (y : Idx) (d : Disp)
  /-- R386: `AND h` -/
  | andHalf (y : Idx) (h : Half)
  /-- R386: `AND (XY+d)` -/
  | andIdxD (y : Idx) (d : Disp)
  /-- R387: `XOR h` -/
  | xorHalf (y : Idx) (h : Half)
  /-- R387: `XOR (XY+d)` -/
  | xorIdxD (y : Idx) (d : Disp)
  /-- R388: `OR h` -/
  | orHalf (y : Idx) (h : Half)
  /-- R388: `OR (XY+d)` -/
  | orIdxD (y : Idx) (d : Disp)
  /-- R389: `CP h` -/
  | cpHalf (y : Idx) (h : Half)
  /-- R389: `CP (XY+d)` -/
  | cpIdxD (y : Idx) (d : Disp)
  /-- R493: `ADDW HL,XY` -/
  | addwHlXy (y : Idx)
  /-- R493: `ADDW HL,(XY+d)` -/
  | addwHlIdxD (y : Idx) (d : Disp)
  /-- R493: `ADDW HL,p` -/
  | addwHlPp (pp : Pair)
  /-- R493: `ADDW HL,nn` -/
  | addwHlNn (nn : Imm)
  /-- R494: `ADCW HL,XY` -/
  | adcwHlXy (y : Idx)
  /-- R494: `ADCW HL,(XY+d)` -/
  | adcwHlIdxD (y : Idx) (d : Disp)
  /-- R494: `ADCW HL,p` -/
  | adcwHlPp (pp : Pair)
  /-- R494: `ADCW HL,nn` -/
  | adcwHlNn (nn : Imm)
  /-- R495: `SUBW HL,XY` -/
  | subwHlXy (y : Idx)
  /-- R495: `SUBW HL,(XY+d)` -/
  | subwHlIdxD (y : Idx) (d : Disp)
  /-- R495: `SUBW HL,p` -/
  | subwHlPp (pp : Pair)
  /-- R495: `SUBW HL,nn` -/
  | subwHlNn (nn : Imm)
  /-- R496: `SBCW HL,XY` -/
  | sbcwHlXy (y : Idx)
  /-- R496: `SBCW HL,(XY+d)` -/
  | sbcwHlIdxD (y : Idx) (d : Disp)
  /-- R496: `SBCW HL,p` -/
  | sbcwHlPp (pp : Pair)
  /-- R496: `SBCW HL,nn` -/
  | sbcwHlNn (nn : Imm)
  /-- R497: `ANDW HL,XY` -/
  | andwHlXy (y : Idx)
  /-- R497: `ANDW HL,(XY+d)` -/
  | andwHlIdxD (y : Idx) (d : Disp)
  /-- R497: `ANDW HL,p` -/
  | andwHlPp (pp : Pair)
  /-- R497: `ANDW HL,nn` -/
  | andwHlNn (nn : Imm)
  /-- R499: `XORW HL,XY` -/
  | xorwHlXy (y : Idx)
  /-- R499: `XORW HL,(XY+d)` -/
  | xorwHlIdxD (y : Idx) (d : Disp)
  /-- R499: `XORW HL,p` -/
  | xorwHlPp (pp : Pair)
  /-- R499: `XORW HL,nn` -/
  | xorwHlNn (nn : Imm)
  /-- R498: `ORW HL,XY` -/
  | orwHlXy (y : Idx)
  /-- R498: `ORW HL,(XY+d)` -/
  | orwHlIdxD (y : Idx) (d : Disp)
  /-- R498: `ORW HL,p` -/
  | orwHlPp (pp : Pair)
  /-- R498: `ORW HL,nn` -/
  | orwHlNn (nn : Imm)
  /-- R500: `CPW HL,XY` -/
  | cpwHlXy (y : Idx)
  /-- R500: `CPW HL,(XY+d)` -/
  | cpwHlIdxD (y : Idx) (d : Disp)
  /-- R500: `CPW HL,p` -/
  | cpwHlPp (pp : Pair)
  /-- R500: `CPW HL,nn` -/
  | cpwHlNn (nn : Imm)
  /-- R632: `CALR c,ee` -/
  | calrCcE16 (cc : Cond) (e : BitVec 16)
  /-- R634: `CALR c,eee` -/
  | calrCcE24 (cc : Cond) (e : BitVec 24)
  /-- R631: `CALR ee` -/
  | calrE16 (e : BitVec 16)
  /-- R633: `CALR eee` -/
  | calrE24 (e : BitVec 24)
  /-- R443: `LDCTL SR,n` -/
  | ldctlSrN (n : BitVec 8)
  /-- R449: `LDCTL XSR,n` -/
  | ldctlXsrN (n : BitVec 8)
  /-- R449: `LDCTL YSR,n` -/
  | ldctlYsrN (n : BitVec 8)
  /-- R679: `OUTAW (nn),HL` -/
  | outawDirNnHl (nn : Imm)
  /-- R672: `INAW HL,(nn)` -/
  | inawHlDirNn (nn : Imm)
  /-- R291: `POP XY` -/
  | popXy (y : Idx)
  /-- R325: `EX (SP),XY` -/
  | exIndSpXy (y : Idx)
  /-- R288: `PUSH XY` -/
  | pushXy (y : Idx)
  /-- R604: `JP (XY)` -/
  | jpIndXy (y : Idx)
  /-- R262: `LD SP,XY` -/
  | ldSpXy (y : Idx)
  /-- R438: `DI n` -/
  | diN (n : BitVec 8)
  /-- R439: `EI n` -/
  | eiN (n : BitVec 8)
  /-- R294: `PUSH nn` -/
  | pushNn (nn : Imm)
  /-- R547: `RLC (XY+d)` -/
  | rlcIdxD (y : Idx) (d : Disp)
  /-- R548: `RRC (XY+d)` -/
  | rrcIdxD (y : Idx) (d : Disp)
  /-- R549: `RL (XY+d)` -/
  | rlIdxD (y : Idx) (d : Disp)
  /-- R550: `RR (XY+d)` -/
  | rrIdxD (y : Idx) (d : Disp)
  /-- R551: `SLA (XY+d)` -/
  | slaIdxD (y : Idx) (d : Disp)
  /-- R552: `SRA (XY+d)` -/
  | sraIdxD (y : Idx) (d : Disp)
  /-- R553: `SRL (XY+d)` -/
  | srlIdxD (y : Idx) (d : Disp)
  /-- R581: `BIT b,(XY+d)` -/
  | bitBIdxD (b : BitVec 3) (y : Idx) (d : Disp)
  /-- R583: `RES b,(XY+d)` -/
  | resBIdxD (b : BitVec 3) (y : Idx) (d : Disp)
  /-- R582: `SET b,(XY+d)` -/
  | setBIdxD (b : BitVec 3) (y : Idx) (d : Disp)
  /-- R561: `RLCW (XY+d)` -/
  | rlcwIdxD (y : Idx) (d : Disp)
  /-- R561: `RLCW x` -/
  | rlcwWop (x : WordOp)
  /-- R562: `RRCW (XY+d)` -/
  | rrcwIdxD (y : Idx) (d : Disp)
  /-- R562: `RRCW x` -/
  | rrcwWop (x : WordOp)
  /-- R563: `RLW (XY+d)` -/
  | rlwIdxD (y : Idx) (d : Disp)
  /-- R563: `RLW x` -/
  | rlwWop (x : WordOp)
  /-- R564: `RRW (XY+d)` -/
  | rrwIdxD (y : Idx) (d : Disp)
  /-- R564: `RRW x` -/
  | rrwWop (x : WordOp)
  /-- R565: `SLAW (XY+d)` -/
  | slawIdxD (y : Idx) (d : Disp)
  /-- R565: `SLAW x` -/
  | slawWop (x : WordOp)
  /-- R566: `SRAW (XY+d)` -/
  | srawIdxD (y : Idx) (d : Disp)
  /-- R566: `SRAW x` -/
  | srawWop (x : WordOp)
  /-- R567: `SRLW (XY+d)` -/
  | srlwIdxD (y : Idx) (d : Disp)
  /-- R567: `SRLW x` -/
  | srlwWop (x : WordOp)
  /-- R274: `LD p,(SP+d)` -/
  | ldPpSpD (pp : Pair) (d : Disp)
  /-- R275: `LD XY,(SP+d)` -/
  | ldXySpD (y : Idx) (d : Disp)
  /-- R272: `LD p,(XY+d)` -/
  | ldPpIdxD (pp : Pair) (y : Idx) (d : Disp)
  /-- R273: `LD YX,(XY+d)` -/
  | ldYxIdxD (y : Idx) (d : Disp)
  /-- R278: `LD (SP+d),p` -/
  | ldSpDPp (d : Disp) (pp : Pair)
  /-- R278: `LD (SP+d),XY` -/
  | ldSpDXy (d : Disp) (y : Idx)
  /-- R276: `LD (XY+d),p` -/
  | ldIdxDPp (y : Idx) (d : Disp) (pp : Pair)
  /-- R277: `LD (XY+d),YX` -/
  | ldIdxDYx (y : Idx) (d : Disp)
  /-- R511: `MULTW HL,(XY+d)` -/
  | multwHlIdxD (y : Idx) (d : Disp)
  /-- R512: `MULTUW HL,(XY+d)` -/
  | multuwHlIdxD (y : Idx) (d : Disp)
  /-- R513: `DIVUW HL,(XY+d)` -/
  | divuwHlIdxD (y : Idx) (d : Disp)
  /-- R691: `IN0 r,(n)` -/
  | in0RPortN (r : Reg8) (n : BitVec 8)
  /-- R692: `IN0 (n)` -/
  | in0PortN (n : BitVec 8)
  /-- R693: `OUT0 (n),r` -/
  | out0PortNR (n : BitVec 8) (r : Reg8)
  /-- R393: `TST r` -/
  | tstR (r : Reg8)
  /-- R394: `TST n` -/
  | tstN (n : BitVec 8)
  /-- R263: `LD (p),nn` -/
  | ldIndPpNn (pp : Pair) (nn : Imm)
  /-- R326: `EX A,r` -/
  | exAR (r : Reg8)
  /-- R338: `SWAP p` -/
  | swapPp (pp : Pair)
  /-- R652: `IN r,(C)` -/
  | inRPortC (r : Reg8)
  /-- R654: `OUT (C),r` -/
  | outPortCR (r : Reg8)
  /-- R666: `OUT (C),n` -/
  | outPortCN (n : BitVec 8)
  /-- R486: `SBC HL,p` -/
  | sbcHlDd (dd : Pair4)
  /-- R485: `ADC HL,p` -/
  | adcHlDd (dd : Pair4)
  /-- R259: `LD (nn),p` -/
  | ldDirNnDd (nn : Imm) (dd : Pair4)
  /-- R256: `LD p,(nn)` -/
  | ldDdDirNn (dd : Pair4) (nn : Imm)
  /-- R510: `MLT p` -/
  | mltDd (dd : Pair4)
  /-- R694: `TSTIO n` -/
  | tstioN (n : BitVec 8)
  /-- R491: `ADD SP,nn` -/
  | addSpNn (nn : Imm)
  /-- R492: `SUB SP,nn` -/
  | subSpNn (nn : Imm)
  /-- R501: `ADD HL,(nn)` -/
  | addHlDirNn (nn : Imm)
  /-- R502: `SUB HL,(nn)` -/
  | subHlDirNn (nn : Imm)
  /-- R630: `CALR c,e` -/
  | calrCcE8 (cc : Cond) (e : BitVec 8)
  /-- R629: `CALR e` -/
  | calrE8 (e : BitVec 8)
  /-- R449: `LDCTL DSR,n` -/
  | ldctlDsrN (n : BitVec 8)
  /-- R667: `OUTA (nn),A` -/
  | outaDirNnA (nn : Imm)
  /-- R665: `INA A,(nn)` -/
  | inaADirNn (nn : Imm)
  /-- R511: `MULTW HL,x` -/
  | multwHlWop (x : WordOp)
  /-- R511: `MULTW HL,nn` -/
  | multwHlNn (nn : Imm)
  /-- R512: `MULTUW HL,x` -/
  | multuwHlWop (x : WordOp)
  /-- R512: `MULTUW HL,nn` -/
  | multuwHlNn (nn : Imm)
  /-- R513: `DIVUW HL,x` -/
  | divuwHlWop (x : WordOp)
  /-- R513: `DIVUW HL,nn` -/
  | divuwHlNn (nn : Imm)
  /-- R426: `NOP` -/
  | nop
  /-- R213: `LD (BC),A` -/
  | ldIndBcA
  /-- R218: `LD (DE),A` -/
  | ldIndDeA
  /-- R210: `LD A,(BC)` -/
  | ldAIndBc
  /-- R211: `LD A,(DE)` -/
  | ldAIndDe
  /-- R390: `INC (HL)` -/
  | incIndHl
  /-- R392: `DEC (HL)` -/
  | decIndHl
  /-- R543: `RLCA` -/
  | rlca
  /-- R544: `RRCA` -/
  | rrca
  /-- R545: `RLA` -/
  | rla
  /-- R546: `RRA` -/
  | rra
  /-- R322: `EX AF,AF'` -/
  | exAfAfAlt
  /-- R421: `DAA` -/
  | daa
  /-- R422: `CPL` -/
  | cpl
  /-- R425: `SCF` -/
  | scf
  /-- R424: `CCF` -/
  | ccf
  /-- R427: `HALT` -/
  | halt
  /-- R382: `ADD A,(HL)` -/
  | addAIndHl
  /-- R383: `ADC A,(HL)` -/
  | adcAIndHl
  /-- R384: `SUB (HL)` -/
  | subIndHl
  /-- R385: `SBC A,(HL)` -/
  | sbcAIndHl
  /-- R386: `AND (HL)` -/
  | andIndHl
  /-- R387: `XOR (HL)` -/
  | xorIndHl
  /-- R388: `OR (HL)` -/
  | orIndHl
  /-- R389: `CP (HL)` -/
  | cpIndHl
  /-- R290: `POP AF` -/
  | popAf
  /-- R287: `PUSH AF` -/
  | pushAf
  /-- R624: `RET` -/
  | ret
  /-- R321: `EXX` -/
  | exx
  /-- R324: `EX (SP),HL` -/
  | exIndSpHl
  /-- R603: `JP (HL)` -/
  | jpIndHl
  /-- R323: `EX DE,HL` -/
  | exDeHl
  /-- R428: `DI` -/
  | di
  /-- R429: `EI` -/
  | ei
  /-- R261: `LD SP,HL` -/
  | ldSpHl
  /-- R547: `RLC (HL)` -/
  | rlcIndHl
  /-- R548: `RRC (HL)` -/
  | rrcIndHl
  /-- R549: `RL (HL)` -/
  | rlIndHl
  /-- R550: `RR (HL)` -/
  | rrIndHl
  /-- R551: `SLA (HL)` -/
  | slaIndHl
  /-- R552: `SRA (HL)` -/
  | sraIndHl
  /-- R553: `SRL (HL)` -/
  | srlIndHl
  /-- R269: `LD IX,IY` -/
  | ldIxIy
  /-- R269: `LD IY,IX` -/
  | ldIyIx
  /-- R431: `CPLW` -/
  | cplw
  /-- R671: `INW BC,(C)` -/
  | inwBcPortC
  /-- R671: `INW DE,(C)` -/
  | inwDePortC
  /-- R671: `INW HL,(C)` -/
  | inwHlPortC
  /-- R677: `OUTW (C),BC` -/
  | outwPortCBc
  /-- R677: `OUTW (C),DE` -/
  | outwPortCDe
  /-- R677: `OUTW (C),HL` -/
  | outwPortCHl
  /-- R279: `LD I,HL` -/
  | ldIHl
  /-- R280: `LD HL,I` -/
  | ldHlI
  /-- R461: `DDIR W` -/
  | ddirW
  /-- R462: `DDIR IB,W` -/
  | ddirIbW
  /-- R463: `DDIR IW,W` -/
  | ddirIwW
  /-- R464: `DDIR IB` -/
  | ddirIb
  /-- R465: `DDIR LW` -/
  | ddirLw
  /-- R466: `DDIR IB,LW` -/
  | ddirIbLw
  /-- R467: `DDIR IW,LW` -/
  | ddirIwLw
  /-- R468: `DDIR IW` -/
  | ddirIw
  /-- R442: `LDCTL SR,A` -/
  | ldctlSrA
  /-- R457: `MTEST` -/
  | mtest
  /-- R447: `LDCTL A,XSR` -/
  | ldctlAXsr
  /-- R447: `LDCTL A,YSR` -/
  | ldctlAYsr
  /-- R448: `LDCTL XSR,A` -/
  | ldctlXsrA
  /-- R448: `LDCTL YSR,A` -/
  | ldctlYsrA
  /-- R332: `EXXX` -/
  | exxx
  /-- R333: `EXXY` -/
  | exxy
  /-- R454: `SETC LW` -/
  | setcLw
  /-- R455: `RESC LW` -/
  | rescLw
  /-- R451: `SETC XM` -/
  | setcXm
  /-- R336: `EX BC,IX` -/
  | exBcIx
  /-- R336: `EX BC,IY` -/
  | exBcIy
  /-- R336: `EX DE,IX` -/
  | exDeIx
  /-- R336: `EX DE,IY` -/
  | exDeIy
  /-- R336: `EX HL,IX` -/
  | exHlIx
  /-- R336: `EX HL,IY` -/
  | exHlIy
  /-- R337: `EX IX,IY` -/
  | exIxIy
  /-- R395: `TST (HL)` -/
  | tstIndHl
  /-- R334: `EX BC,DE` -/
  | exBcDe
  /-- R335: `EX BC,HL` -/
  | exBcHl
  /-- R330: `EX A,(HL)` -/
  | exAIndHl
  /-- R423: `NEG` -/
  | neg
  /-- R432: `NEGW` -/
  | negw
  /-- R627: `RETN` -/
  | retn
  /-- R626: `RETI` -/
  | reti
  /-- R430: `IM 0` -/
  | im0
  /-- R430: `IM 1` -/
  | im1
  /-- R430: `IM 2` -/
  | im2
  /-- R440: `IM 3` -/
  | im3
  /-- R215: `LD I,A` -/
  | ldIA
  /-- R216: `LD R,A` -/
  | ldRA
  /-- R214: `LD A,I` -/
  | ldAI
  /-- R217: `LD A,R` -/
  | ldAR
  /-- R434: `EXTS` -/
  | exts
  /-- R435: `EXTSW` -/
  | extsw
  /-- R555: `RRD` -/
  | rrd
  /-- R554: `RLD` -/
  | rld
  /-- R436: `SLP` -/
  | slp
  /-- R695: `OTIM` -/
  | otim
  /-- R697: `OTDM` -/
  | otdm
  /-- R696: `OTIMR` -/
  | otimr
  /-- R698: `OTDMR` -/
  | otdmr
  /-- R341: `LDI` -/
  | ldi
  /-- R345: `CPI` -/
  | cpi
  /-- R655: `INI` -/
  | ini
  /-- R659: `OUTI` -/
  | outi
  /-- R342: `LDD` -/
  | ldd
  /-- R346: `CPD` -/
  | cpd
  /-- R657: `IND` -/
  | ind
  /-- R661: `OUTD` -/
  | outd
  /-- R343: `LDIR` -/
  | ldir
  /-- R347: `CPIR` -/
  | cpir
  /-- R656: `INIR` -/
  | inir
  /-- R660: `OTIR` -/
  | otir
  /-- R344: `LDDR` -/
  | lddr
  /-- R348: `CPDR` -/
  | cpdr
  /-- R658: `INDR` -/
  | indr
  /-- R662: `OTDR` -/
  | otdr
  /-- R445: `LDCTL HL,SR` -/
  | ldctlHlSr
  /-- R446: `LDCTL SR,HL` -/
  | ldctlSrHl
  /-- R293: `POP SR` -/
  | popSr
  /-- R292: `PUSH SR` -/
  | pushSr
  /-- R456: `BTEST` -/
  | btest
  /-- R447: `LDCTL A,DSR` -/
  | ldctlADsr
  /-- R448: `LDCTL DSR,A` -/
  | ldctlDsrA
  /-- R331: `EXALL` -/
  | exall
  /-- R349: `LDIW` -/
  | ldiw
  /-- R350: `LDDW` -/
  | lddw
  /-- R351: `LDIRW` -/
  | ldirw
  /-- R352: `LDDRW` -/
  | lddrw
  /-- R673: `INIW` -/
  | iniw
  /-- R675: `INDW` -/
  | indw
  /-- R674: `INIRW` -/
  | inirw
  /-- R676: `INDRW` -/
  | indrw
  /-- R680: `OUTIW` -/
  | outiw
  /-- R682: `OUTDW` -/
  | outdw
  /-- R681: `OTIRW` -/
  | otirw
  /-- R683: `OTDRW` -/
  | otdrw
  /-- R452: `SETC LCK` -/
  | setcLck
  /-- R453: `RESC LCK` -/
  | rescLck
  /-- R328: `EX BC,BC'` -/
  | exBcBcAlt
  /-- R328: `EX DE,DE'` -/
  | exDeDeAlt
  /-- R328: `EX HL,HL'` -/
  | exHlHlAlt
  /-- R329: `EX IX,IX'` -/
  | exIxIxAlt
  /-- R329: `EX IY,IY'` -/
  | exIyIyAlt
  deriving DecidableEq, Repr

end Sys2Proof
end

