-- ==== Sys2Proof/WellFormed.lean ====
section
/-! DEFINITION. Which terms of `Instr` are instructions: the checks on operand fields that the types do not make. -/

namespace Sys2Proof

/-- R606, R614, R616: JR takes only the conditions NZ, Z, NC and C. -/
def Cond.isJr : Cond → Bool
  | .nz => true
  | .z => true
  | .nc => true
  | .c => true
  | .po => false
  | .pe => false
  | .p => false
  | .m => false

/-- R221, R222: H and L are no operand of the index-half loads. -/
def Reg8.besideHalf : Reg8 → Bool
  | .b => true
  | .c => true
  | .d => true
  | .e => true
  | .h => false
  | .l => false
  | .a => true

/-- R221: the source operand of LD XYU,s and LD XYL,s. -/
def HalfSrc.wf : HalfSrc → Bool
  | .reg r => r.besideHalf
  | .half _ => true

/-- R511 to R513: (HL) is no operand of the multiply and divide rows of page ED CB. -/
def WordOp.isReg : WordOp → Bool
  | .bc => true
  | .de => true
  | .indHl => false
  | .hl => true
  | .ix => true
  | .iy => true

/-- A well-formed instruction: every operand is one its row's value map holds (R167). -/
def Instr.wf : Instr → Bool
  | .ldDdNn _ _ => true
  | .incDd _ => true
  | .decDd _ => true
  | .incR _ => true
  | .decR _ => true
  | .ldRN _ _ => true
  | .ldIndHlN _ => true
  | .addHlDd _ => true
  | .djnzE8 _ => true
  | .jrE8 _ => true
  | .jrCcE8 cc _ => cc.isJr
  | .ldDirNnHl _ => true
  | .ldHlDirNn _ => true
  | .ldDirNnA _ => true
  | .ldADirNn _ => true
  | .ldRR _ _ => true
  | .ldRIndHl _ => true
  | .ldIndHlR _ => true
  | .addAR _ => true
  | .addAN _ => true
  | .adcAR _ => true
  | .adcAN _ => true
  | .subR _ => true
  | .subN _ => true
  | .sbcAR _ => true
  | .sbcAN _ => true
  | .andR _ => true
  | .andN _ => true
  | .xorR _ => true
  | .xorN _ => true
  | .orR _ => true
  | .orN _ => true
  | .cpR _ => true
  | .cpN _ => true
  | .retCc _ => true
  | .popQq _ => true
  | .jpCcNn _ _ => true
  | .jpNn _ => true
  | .callCcNn _ _ => true
  | .pushQq _ => true
  | .rstP _ => true
  | .callNn _ => true
  | .outPortNA _ => true
  | .inAPortN _ => true
  | .rlcR _ => true
  | .rrcR _ => true
  | .rlR _ => true
  | .rrR _ => true
  | .slaR _ => true
  | .sraR _ => true
  | .srlR _ => true
  | .exRRAlt _ => true
  | .bitBR _ _ => true
  | .bitBIndHl _ => true
  | .resBR _ _ => true
  | .resBIndHl _ => true
  | .setBR _ _ => true
  | .setBIndHl _ => true
  | .addXyTt _ _ => true
  | .ldIndPpXy _ _ => true
  | .ldXyIndPp _ _ => true
  | .ldXyPp _ _ => true
  | .ldPpXy _ _ => true
  | .ldPpIndUu _ _ => true
  | .ldIndPpUu _ _ => true
  | .ldPpBc _ => true
  | .ldPpDe _ => true
  | .ldPpHl _ => true
  | .djnzE16 _ => true
  | .djnzE24 _ => true
  | .jrE16 _ => true
  | .jrE24 _ => true
  | .jrCcE16 cc _ => cc.isJr
  | .jrCcE24 cc _ => cc.isJr
  | .ldXyNn _ _ => true
  | .ldDirNnXy _ _ => true
  | .ldXyDirNn _ _ => true
  | .incXy _ => true
  | .decXy _ => true
  | .incHalf _ _ => true
  | .decHalf _ _ => true
  | .ldHalfN _ _ _ => true
  | .incIdxD _ _ => true
  | .decIdxD _ _ => true
  | .ldIdxDN _ _ _ => true
  | .swapXy _ => true
  | .outwPortCNn _ => true
  | .ldHalfS _ _ src => src.wf
  | .ldRHalf r _ _ => r.besideHalf
  | .ldRIdxD _ _ _ => true
  | .ldIdxDR _ _ _ => true
  | .addAHalf _ _ => true
  | .addAIdxD _ _ => true
  | .adcAHalf _ _ => true
  | .adcAIdxD _ _ => true
  | .subHalf _ _ => true
  | .subIdxD _ _ => true
  | .sbcAHalf _ _ => true
  | .sbcAIdxD _ _ => true
  | .andHalf _ _ => true
  | .andIdxD _ _ => true
  | .xorHalf _ _ => true
  | .xorIdxD _ _ => true
  | .orHalf _ _ => true
  | .orIdxD _ _ => true
  | .cpHalf _ _ => true
  | .cpIdxD _ _ => true
  | .addwHlXy _ => true
  | .addwHlIdxD _ _ => true
  | .addwHlPp _ => true
  | .addwHlNn _ => true
  | .adcwHlXy _ => true
  | .adcwHlIdxD _ _ => true
  | .adcwHlPp _ => true
  | .adcwHlNn _ => true
  | .subwHlXy _ => true
  | .subwHlIdxD _ _ => true
  | .subwHlPp _ => true
  | .subwHlNn _ => true
  | .sbcwHlXy _ => true
  | .sbcwHlIdxD _ _ => true
  | .sbcwHlPp _ => true
  | .sbcwHlNn _ => true
  | .andwHlXy _ => true
  | .andwHlIdxD _ _ => true
  | .andwHlPp _ => true
  | .andwHlNn _ => true
  | .xorwHlXy _ => true
  | .xorwHlIdxD _ _ => true
  | .xorwHlPp _ => true
  | .xorwHlNn _ => true
  | .orwHlXy _ => true
  | .orwHlIdxD _ _ => true
  | .orwHlPp _ => true
  | .orwHlNn _ => true
  | .cpwHlXy _ => true
  | .cpwHlIdxD _ _ => true
  | .cpwHlPp _ => true
  | .cpwHlNn _ => true
  | .calrCcE16 _ _ => true
  | .calrCcE24 _ _ => true
  | .calrE16 _ => true
  | .calrE24 _ => true
  | .ldctlSrN _ => true
  | .ldctlXsrN _ => true
  | .ldctlYsrN _ => true
  | .outawDirNnHl _ => true
  | .inawHlDirNn _ => true
  | .popXy _ => true
  | .exIndSpXy _ => true
  | .pushXy _ => true
  | .jpIndXy _ => true
  | .ldSpXy _ => true
  | .diN _ => true
  | .eiN _ => true
  | .pushNn _ => true
  | .rlcIdxD _ _ => true
  | .rrcIdxD _ _ => true
  | .rlIdxD _ _ => true
  | .rrIdxD _ _ => true
  | .slaIdxD _ _ => true
  | .sraIdxD _ _ => true
  | .srlIdxD _ _ => true
  | .bitBIdxD _ _ _ => true
  | .resBIdxD _ _ _ => true
  | .setBIdxD _ _ _ => true
  | .rlcwIdxD _ _ => true
  | .rlcwWop _ => true
  | .rrcwIdxD _ _ => true
  | .rrcwWop _ => true
  | .rlwIdxD _ _ => true
  | .rlwWop _ => true
  | .rrwIdxD _ _ => true
  | .rrwWop _ => true
  | .slawIdxD _ _ => true
  | .slawWop _ => true
  | .srawIdxD _ _ => true
  | .srawWop _ => true
  | .srlwIdxD _ _ => true
  | .srlwWop _ => true
  | .ldPpSpD _ _ => true
  | .ldXySpD _ _ => true
  | .ldPpIdxD _ _ _ => true
  | .ldYxIdxD _ _ => true
  | .ldSpDPp _ _ => true
  | .ldSpDXy _ _ => true
  | .ldIdxDPp _ _ _ => true
  | .ldIdxDYx _ _ => true
  | .multwHlIdxD _ _ => true
  | .multuwHlIdxD _ _ => true
  | .divuwHlIdxD _ _ => true
  | .in0RPortN _ _ => true
  | .in0PortN _ => true
  | .out0PortNR _ _ => true
  | .tstR _ => true
  | .tstN _ => true
  | .ldIndPpNn _ _ => true
  | .exAR _ => true
  | .swapPp _ => true
  | .inRPortC _ => true
  | .outPortCR _ => true
  | .outPortCN _ => true
  | .sbcHlDd _ => true
  | .adcHlDd _ => true
  | .ldDirNnDd _ _ => true
  | .ldDdDirNn _ _ => true
  | .mltDd _ => true
  | .tstioN _ => true
  | .addSpNn _ => true
  | .subSpNn _ => true
  | .addHlDirNn _ => true
  | .subHlDirNn _ => true
  | .calrCcE8 _ _ => true
  | .calrE8 _ => true
  | .ldctlDsrN _ => true
  | .outaDirNnA _ => true
  | .inaADirNn _ => true
  | .multwHlWop x => x.isReg
  | .multwHlNn _ => true
  | .multuwHlWop x => x.isReg
  | .multuwHlNn _ => true
  | .divuwHlWop x => x.isReg
  | .divuwHlNn _ => true
  | .nop => true
  | .ldIndBcA => true
  | .ldIndDeA => true
  | .ldAIndBc => true
  | .ldAIndDe => true
  | .incIndHl => true
  | .decIndHl => true
  | .rlca => true
  | .rrca => true
  | .rla => true
  | .rra => true
  | .exAfAfAlt => true
  | .daa => true
  | .cpl => true
  | .scf => true
  | .ccf => true
  | .halt => true
  | .addAIndHl => true
  | .adcAIndHl => true
  | .subIndHl => true
  | .sbcAIndHl => true
  | .andIndHl => true
  | .xorIndHl => true
  | .orIndHl => true
  | .cpIndHl => true
  | .popAf => true
  | .pushAf => true
  | .ret => true
  | .exx => true
  | .exIndSpHl => true
  | .jpIndHl => true
  | .exDeHl => true
  | .di => true
  | .ei => true
  | .ldSpHl => true
  | .rlcIndHl => true
  | .rrcIndHl => true
  | .rlIndHl => true
  | .rrIndHl => true
  | .slaIndHl => true
  | .sraIndHl => true
  | .srlIndHl => true
  | .ldIxIy => true
  | .ldIyIx => true
  | .cplw => true
  | .inwBcPortC => true
  | .inwDePortC => true
  | .inwHlPortC => true
  | .outwPortCBc => true
  | .outwPortCDe => true
  | .outwPortCHl => true
  | .ldIHl => true
  | .ldHlI => true
  | .ddirW => true
  | .ddirIbW => true
  | .ddirIwW => true
  | .ddirIb => true
  | .ddirLw => true
  | .ddirIbLw => true
  | .ddirIwLw => true
  | .ddirIw => true
  | .ldctlSrA => true
  | .mtest => true
  | .ldctlAXsr => true
  | .ldctlAYsr => true
  | .ldctlXsrA => true
  | .ldctlYsrA => true
  | .exxx => true
  | .exxy => true
  | .setcLw => true
  | .rescLw => true
  | .setcXm => true
  | .exBcIx => true
  | .exBcIy => true
  | .exDeIx => true
  | .exDeIy => true
  | .exHlIx => true
  | .exHlIy => true
  | .exIxIy => true
  | .tstIndHl => true
  | .exBcDe => true
  | .exBcHl => true
  | .exAIndHl => true
  | .neg => true
  | .negw => true
  | .retn => true
  | .reti => true
  | .im0 => true
  | .im1 => true
  | .im2 => true
  | .im3 => true
  | .ldIA => true
  | .ldRA => true
  | .ldAI => true
  | .ldAR => true
  | .exts => true
  | .extsw => true
  | .rrd => true
  | .rld => true
  | .slp => true
  | .otim => true
  | .otdm => true
  | .otimr => true
  | .otdmr => true
  | .ldi => true
  | .cpi => true
  | .ini => true
  | .outi => true
  | .ldd => true
  | .cpd => true
  | .ind => true
  | .outd => true
  | .ldir => true
  | .cpir => true
  | .inir => true
  | .otir => true
  | .lddr => true
  | .cpdr => true
  | .indr => true
  | .otdr => true
  | .ldctlHlSr => true
  | .ldctlSrHl => true
  | .popSr => true
  | .pushSr => true
  | .btest => true
  | .ldctlADsr => true
  | .ldctlDsrA => true
  | .exall => true
  | .ldiw => true
  | .lddw => true
  | .ldirw => true
  | .lddrw => true
  | .iniw => true
  | .indw => true
  | .inirw => true
  | .indrw => true
  | .outiw => true
  | .outdw => true
  | .otirw => true
  | .otdrw => true
  | .setcLck => true
  | .rescLck => true
  | .exBcBcAlt => true
  | .exDeDeAlt => true
  | .exHlHlAlt => true
  | .exIxIxAlt => true
  | .exIyIyAlt => true

/-- The bytes a displacement field carries beyond its one (R469). -/
def Disp.ext : Disp → Ext
  | .d8 _ => .zero
  | .d16 _ => .ib
  | .d24 _ => .iw

/-- The bytes a data or address field carries beyond its two (R469). -/
def Imm.ext : Imm → Ext
  | .i16 _ => .zero
  | .i24 _ => .ib
  | .i32 _ => .iw

/-- The length its extendable field has, for an instruction that has one (R145, column `ddir_ext`). -/
def Instr.ext? : Instr → Option Ext
  | .ldDdNn _ nn => some nn.ext
  | .incDd _ => none
  | .decDd _ => none
  | .incR _ => none
  | .decR _ => none
  | .ldRN _ _ => none
  | .ldIndHlN _ => none
  | .addHlDd _ => none
  | .djnzE8 _ => none
  | .jrE8 _ => none
  | .jrCcE8 _ _ => none
  | .ldDirNnHl nn => some nn.ext
  | .ldHlDirNn nn => some nn.ext
  | .ldDirNnA nn => some nn.ext
  | .ldADirNn nn => some nn.ext
  | .ldRR _ _ => none
  | .ldRIndHl _ => none
  | .ldIndHlR _ => none
  | .addAR _ => none
  | .addAN _ => none
  | .adcAR _ => none
  | .adcAN _ => none
  | .subR _ => none
  | .subN _ => none
  | .sbcAR _ => none
  | .sbcAN _ => none
  | .andR _ => none
  | .andN _ => none
  | .xorR _ => none
  | .xorN _ => none
  | .orR _ => none
  | .orN _ => none
  | .cpR _ => none
  | .cpN _ => none
  | .retCc _ => none
  | .popQq _ => none
  | .jpCcNn _ nn => some nn.ext
  | .jpNn nn => some nn.ext
  | .callCcNn _ nn => some nn.ext
  | .pushQq _ => none
  | .rstP _ => none
  | .callNn nn => some nn.ext
  | .outPortNA _ => none
  | .inAPortN _ => none
  | .rlcR _ => none
  | .rrcR _ => none
  | .rlR _ => none
  | .rrR _ => none
  | .slaR _ => none
  | .sraR _ => none
  | .srlR _ => none
  | .exRRAlt _ => none
  | .bitBR _ _ => none
  | .bitBIndHl _ => none
  | .resBR _ _ => none
  | .resBIndHl _ => none
  | .setBR _ _ => none
  | .setBIndHl _ => none
  | .addXyTt _ _ => none
  | .ldIndPpXy _ _ => none
  | .ldXyIndPp _ _ => none
  | .ldXyPp _ _ => none
  | .ldPpXy _ _ => none
  | .ldPpIndUu _ _ => none
  | .ldIndPpUu _ _ => none
  | .ldPpBc _ => none
  | .ldPpDe _ => none
  | .ldPpHl _ => none
  | .djnzE16 _ => none
  | .djnzE24 _ => none
  | .jrE16 _ => none
  | .jrE24 _ => none
  | .jrCcE16 _ _ => none
  | .jrCcE24 _ _ => none
  | .ldXyNn _ nn => some nn.ext
  | .ldDirNnXy nn _ => some nn.ext
  | .ldXyDirNn _ nn => some nn.ext
  | .incXy _ => none
  | .decXy _ => none
  | .incHalf _ _ => none
  | .decHalf _ _ => none
  | .ldHalfN _ _ _ => none
  | .incIdxD _ d => some d.ext
  | .decIdxD _ d => some d.ext
  | .ldIdxDN _ d _ => some d.ext
  | .swapXy _ => none
  | .outwPortCNn nn => some nn.ext
  | .ldHalfS _ _ _ => none
  | .ldRHalf _ _ _ => none
  | .ldRIdxD _ _ d => some d.ext
  | .ldIdxDR _ d _ => some d.ext
  | .addAHalf _ _ => none
  | .addAIdxD _ d => some d.ext
  | .adcAHalf _ _ => none
  | .adcAIdxD _ d => some d.ext
  | .subHalf _ _ => none
  | .subIdxD _ d => some d.ext
  | .sbcAHalf _ _ => none
  | .sbcAIdxD _ d => some d.ext
  | .andHalf _ _ => none
  | .andIdxD _ d => some d.ext
  | .xorHalf _ _ => none
  | .xorIdxD _ d => some d.ext
  | .orHalf _ _ => none
  | .orIdxD _ d => some d.ext
  | .cpHalf _ _ => none
  | .cpIdxD _ d => some d.ext
  | .addwHlXy _ => none
  | .addwHlIdxD _ d => some d.ext
  | .addwHlPp _ => none
  | .addwHlNn nn => some nn.ext
  | .adcwHlXy _ => none
  | .adcwHlIdxD _ d => some d.ext
  | .adcwHlPp _ => none
  | .adcwHlNn nn => some nn.ext
  | .subwHlXy _ => none
  | .subwHlIdxD _ d => some d.ext
  | .subwHlPp _ => none
  | .subwHlNn nn => some nn.ext
  | .sbcwHlXy _ => none
  | .sbcwHlIdxD _ d => some d.ext
  | .sbcwHlPp _ => none
  | .sbcwHlNn nn => some nn.ext
  | .andwHlXy _ => none
  | .andwHlIdxD _ d => some d.ext
  | .andwHlPp _ => none
  | .andwHlNn nn => some nn.ext
  | .xorwHlXy _ => none
  | .xorwHlIdxD _ d => some d.ext
  | .xorwHlPp _ => none
  | .xorwHlNn nn => some nn.ext
  | .orwHlXy _ => none
  | .orwHlIdxD _ d => some d.ext
  | .orwHlPp _ => none
  | .orwHlNn nn => some nn.ext
  | .cpwHlXy _ => none
  | .cpwHlIdxD _ d => some d.ext
  | .cpwHlPp _ => none
  | .cpwHlNn nn => some nn.ext
  | .calrCcE16 _ _ => none
  | .calrCcE24 _ _ => none
  | .calrE16 _ => none
  | .calrE24 _ => none
  | .ldctlSrN _ => none
  | .ldctlXsrN _ => none
  | .ldctlYsrN _ => none
  | .outawDirNnHl nn => some nn.ext
  | .inawHlDirNn nn => some nn.ext
  | .popXy _ => none
  | .exIndSpXy _ => none
  | .pushXy _ => none
  | .jpIndXy _ => none
  | .ldSpXy _ => none
  | .diN _ => none
  | .eiN _ => none
  | .pushNn nn => some nn.ext
  | .rlcIdxD _ d => some d.ext
  | .rrcIdxD _ d => some d.ext
  | .rlIdxD _ d => some d.ext
  | .rrIdxD _ d => some d.ext
  | .slaIdxD _ d => some d.ext
  | .sraIdxD _ d => some d.ext
  | .srlIdxD _ d => some d.ext
  | .bitBIdxD _ _ d => some d.ext
  | .resBIdxD _ _ d => some d.ext
  | .setBIdxD _ _ d => some d.ext
  | .rlcwIdxD _ d => some d.ext
  | .rlcwWop _ => none
  | .rrcwIdxD _ d => some d.ext
  | .rrcwWop _ => none
  | .rlwIdxD _ d => some d.ext
  | .rlwWop _ => none
  | .rrwIdxD _ d => some d.ext
  | .rrwWop _ => none
  | .slawIdxD _ d => some d.ext
  | .slawWop _ => none
  | .srawIdxD _ d => some d.ext
  | .srawWop _ => none
  | .srlwIdxD _ d => some d.ext
  | .srlwWop _ => none
  | .ldPpSpD _ d => some d.ext
  | .ldXySpD _ d => some d.ext
  | .ldPpIdxD _ _ d => some d.ext
  | .ldYxIdxD _ d => some d.ext
  | .ldSpDPp d _ => some d.ext
  | .ldSpDXy d _ => some d.ext
  | .ldIdxDPp _ d _ => some d.ext
  | .ldIdxDYx _ d => some d.ext
  | .multwHlIdxD _ d => some d.ext
  | .multuwHlIdxD _ d => some d.ext
  | .divuwHlIdxD _ d => some d.ext
  | .in0RPortN _ _ => none
  | .in0PortN _ => none
  | .out0PortNR _ _ => none
  | .tstR _ => none
  | .tstN _ => none
  | .ldIndPpNn _ nn => some nn.ext
  | .exAR _ => none
  | .swapPp _ => none
  | .inRPortC _ => none
  | .outPortCR _ => none
  | .outPortCN _ => none
  | .sbcHlDd _ => none
  | .adcHlDd _ => none
  | .ldDirNnDd nn _ => some nn.ext
  | .ldDdDirNn _ nn => some nn.ext
  | .mltDd _ => none
  | .tstioN _ => none
  | .addSpNn nn => some nn.ext
  | .subSpNn nn => some nn.ext
  | .addHlDirNn nn => some nn.ext
  | .subHlDirNn nn => some nn.ext
  | .calrCcE8 _ _ => none
  | .calrE8 _ => none
  | .ldctlDsrN _ => none
  | .outaDirNnA nn => some nn.ext
  | .inaADirNn nn => some nn.ext
  | .multwHlWop _ => none
  | .multwHlNn nn => some nn.ext
  | .multuwHlWop _ => none
  | .multuwHlNn nn => some nn.ext
  | .divuwHlWop _ => none
  | .divuwHlNn nn => some nn.ext
  | .nop => none
  | .ldIndBcA => none
  | .ldIndDeA => none
  | .ldAIndBc => none
  | .ldAIndDe => none
  | .incIndHl => none
  | .decIndHl => none
  | .rlca => none
  | .rrca => none
  | .rla => none
  | .rra => none
  | .exAfAfAlt => none
  | .daa => none
  | .cpl => none
  | .scf => none
  | .ccf => none
  | .halt => none
  | .addAIndHl => none
  | .adcAIndHl => none
  | .subIndHl => none
  | .sbcAIndHl => none
  | .andIndHl => none
  | .xorIndHl => none
  | .orIndHl => none
  | .cpIndHl => none
  | .popAf => none
  | .pushAf => none
  | .ret => none
  | .exx => none
  | .exIndSpHl => none
  | .jpIndHl => none
  | .exDeHl => none
  | .di => none
  | .ei => none
  | .ldSpHl => none
  | .rlcIndHl => none
  | .rrcIndHl => none
  | .rlIndHl => none
  | .rrIndHl => none
  | .slaIndHl => none
  | .sraIndHl => none
  | .srlIndHl => none
  | .ldIxIy => none
  | .ldIyIx => none
  | .cplw => none
  | .inwBcPortC => none
  | .inwDePortC => none
  | .inwHlPortC => none
  | .outwPortCBc => none
  | .outwPortCDe => none
  | .outwPortCHl => none
  | .ldIHl => none
  | .ldHlI => none
  | .ddirW => none
  | .ddirIbW => none
  | .ddirIwW => none
  | .ddirIb => none
  | .ddirLw => none
  | .ddirIbLw => none
  | .ddirIwLw => none
  | .ddirIw => none
  | .ldctlSrA => none
  | .mtest => none
  | .ldctlAXsr => none
  | .ldctlAYsr => none
  | .ldctlXsrA => none
  | .ldctlYsrA => none
  | .exxx => none
  | .exxy => none
  | .setcLw => none
  | .rescLw => none
  | .setcXm => none
  | .exBcIx => none
  | .exBcIy => none
  | .exDeIx => none
  | .exDeIy => none
  | .exHlIx => none
  | .exHlIy => none
  | .exIxIy => none
  | .tstIndHl => none
  | .exBcDe => none
  | .exBcHl => none
  | .exAIndHl => none
  | .neg => none
  | .negw => none
  | .retn => none
  | .reti => none
  | .im0 => none
  | .im1 => none
  | .im2 => none
  | .im3 => none
  | .ldIA => none
  | .ldRA => none
  | .ldAI => none
  | .ldAR => none
  | .exts => none
  | .extsw => none
  | .rrd => none
  | .rld => none
  | .slp => none
  | .otim => none
  | .otdm => none
  | .otimr => none
  | .otdmr => none
  | .ldi => none
  | .cpi => none
  | .ini => none
  | .outi => none
  | .ldd => none
  | .cpd => none
  | .ind => none
  | .outd => none
  | .ldir => none
  | .cpir => none
  | .inir => none
  | .otir => none
  | .lddr => none
  | .cpdr => none
  | .indr => none
  | .otdr => none
  | .ldctlHlSr => none
  | .ldctlSrHl => none
  | .popSr => none
  | .pushSr => none
  | .btest => none
  | .ldctlADsr => none
  | .ldctlDsrA => none
  | .exall => none
  | .ldiw => none
  | .lddw => none
  | .ldirw => none
  | .lddrw => none
  | .iniw => none
  | .indw => none
  | .inirw => none
  | .indrw => none
  | .outiw => none
  | .outdw => none
  | .otirw => none
  | .otdrw => none
  | .setcLck => none
  | .rescLck => none
  | .exBcBcAlt => none
  | .exDeDeAlt => none
  | .exHlHlAlt => none
  | .exIxIxAlt => none
  | .exIyIyAlt => none

/-- The instruction's extendable field, if it has one, has the length `e` gives it (R145). -/
def Instr.fits (i : Instr) (e : Ext) : Bool :=
  match i.ext? with
  | none => true
  | some x => x == e

end Sys2Proof
end

