-- ==== Sys2Proof/Decode.lean ====
section
/-! DEFINITION. Decoding, total on any list of bytes (R166), and the encoder, both written from the encodings of
`spec/opcode_table.json` (R142 to R152). An encoding no row matches is rejected by the name of its page (R160). -/

namespace Sys2Proof

/-- R142: the opcode pages. -/
inductive Page where
  | base | cb | ed | edcb | dd | fd | ddcb | fdcb
  deriving DecidableEq, Repr

/-- Why bytes are no instruction. -/
inductive DecodeError where
  /-- no row of the page has this opcode byte (R160) -/
  | unassigned (page : Page) (op : Byte)
  /-- the bytes end before the instruction does -/
  | truncated
  deriving DecidableEq, Repr

/-- What an opcode still needs: nothing, or the immediate fields of its format (R146) in the order they stand. -/
inductive Rest where
  | done (i : Instr)
  | n8 (f : Byte → Instr)
  | imm (f : Imm → Instr)
  | d (f : Disp → Instr)
  | dn8 (f : Disp → Byte → Instr)
  | e8 (f : BitVec 8 → Instr)
  | e16 (f : BitVec 16 → Instr)
  | e24 (f : BitVec 24 → Instr)

/-- One row of a page: an opcode byte `b` with `b AND mask = value` whose fields `build` accepts (R166 step 5, R167). -/
structure Row (α : Type) where
  mask : Byte
  value : Byte
  build : Byte → Option α

/-- The row of a page that an opcode byte matches (R166 step 5). -/
def lookup {α : Type} (rows : List (Row α)) (op : Byte) : Option α :=
  match rows with
  | [] => none
  | r :: rs =>
    if op &&& r.mask = r.value then
      match r.build op with
      | some x => some x
      | none => lookup rs op
    else lookup rs op

/-! Field codes (R143). -/

def Reg8.ofCode (c : BitVec 3) : Option Reg8 :=
  match c.toNat with
  | 0 => some .b
  | 1 => some .c
  | 2 => some .d
  | 3 => some .e
  | 4 => some .h
  | 5 => some .l
  | 7 => some .a
  | _ => none

def Reg8.code : Reg8 → Byte
  | .b => 0
  | .c => 1
  | .d => 2
  | .e => 3
  | .h => 4
  | .l => 5
  | .a => 7

/-- Field `s` after DD or FD: codes 100 and 101 are the halves (R221). -/
def HalfSrc.ofCode (c : BitVec 3) : Option HalfSrc :=
  match c.toNat with
  | 0 => some (.reg .b)
  | 1 => some (.reg .c)
  | 2 => some (.reg .d)
  | 3 => some (.reg .e)
  | 4 => some (.half .u)
  | 5 => some (.half .l)
  | 7 => some (.reg .a)
  | _ => none

def HalfSrc.code : HalfSrc → Byte
  | .reg r => r.code
  | .half .u => 4
  | .half .l => 5

/-- Field `r` of LD r,XYU and LD r,XYL: H and L have no code there (R222). -/
def Reg8.ofCodeBesideHalf (c : BitVec 3) : Option Reg8 :=
  match c.toNat with
  | 0 => some .b
  | 1 => some .c
  | 2 => some .d
  | 3 => some .e
  | 7 => some .a
  | _ => none

/-- Field `qq` of PUSH and POP; 11 is AF, which has its own row. -/
def Pair.ofQq (c : BitVec 2) : Option Pair :=
  match c.toNat with
  | 0 => some .bc
  | 1 => some .de
  | 2 => some .hl
  | _ => none

def Pair.qq : Pair → Byte
  | .bc => 0
  | .de => 1
  | .hl => 2

/-- Fields `pp` and `uu` of the new instructions; 10 is not a pair. -/
def Pair.ofPp (c : BitVec 2) : Option Pair :=
  match c.toNat with
  | 0 => some .bc
  | 1 => some .de
  | 3 => some .hl
  | _ => none

def Pair.pp : Pair → Byte
  | .bc => 0
  | .de => 1
  | .hl => 3

def Pair4.ofCode (c : BitVec 2) : Option Pair4 :=
  match c.toNat with
  | 0 => some .bc
  | 1 => some .de
  | 2 => some .hl
  | _ => some .sp

def Pair4.code : Pair4 → Byte
  | .bc => 0
  | .de => 1
  | .hl => 2
  | .sp => 3

def AddSrc.ofCode (c : BitVec 2) : Option AddSrc :=
  match c.toNat with
  | 0 => some .bc
  | 1 => some .de
  | 2 => some .same
  | _ => some .sp

def AddSrc.code : AddSrc → Byte
  | .bc => 0
  | .de => 1
  | .same => 2
  | .sp => 3

def Half.ofCode (c : BitVec 1) : Option Half :=
  match c.toNat with
  | 0 => some .u
  | _ => some .l

def Half.code : Half → Byte
  | .u => 0
  | .l => 1

/-- The operand field of the word shifts of page ED CB. -/
def WordOp.ofCode (c : BitVec 3) : Option WordOp :=
  match c.toNat with
  | 0 => some .bc
  | 1 => some .de
  | 2 => some .indHl
  | 3 => some .hl
  | 4 => some .ix
  | 5 => some .iy
  | _ => none

/-- The operand field of the multiply and divide rows of page ED CB. -/
def WordOp.ofCodeReg (c : BitVec 3) : Option WordOp :=
  match c.toNat with
  | 0 => some .bc
  | 1 => some .de
  | 3 => some .hl
  | 4 => some .ix
  | 5 => some .iy
  | _ => none

def WordOp.code : WordOp → Byte
  | .bc => 0
  | .de => 1
  | .indHl => 2
  | .hl => 3
  | .ix => 4
  | .iy => 5

def Cond.ofCode (c : BitVec 3) : Option Cond :=
  match c.toNat with
  | 0 => some .nz
  | 1 => some .z
  | 2 => some .nc
  | 3 => some .c
  | 4 => some .po
  | 5 => some .pe
  | 6 => some .p
  | _ => some .m

/-- The two-bit condition field of JR. -/
def Cond.ofJrCode (c : BitVec 2) : Option Cond :=
  match c.toNat with
  | 0 => some .nz
  | 1 => some .z
  | 2 => some .nc
  | _ => some .c

def Cond.code : Cond → Byte
  | .nz => 0
  | .z => 1
  | .nc => 2
  | .c => 3
  | .po => 4
  | .pe => 5
  | .p => 6
  | .m => 7

/-- The prefix byte 11y11101 (R142): DDh for IX, FDh for IY. -/
def Idx.byte : Idx → Byte
  | .ix => 0xDD
  | .iy => 0xFD

/-- The bits of an opcode byte from bit `lo` up, `n` of them. -/
def field (op : Byte) (lo n : Nat) : BitVec n := op.extractLsb' lo n

/-- A one-bit, two-bit or three-bit code at bit `lo` of an opcode byte. -/
def at' (code : Byte) (lo : Nat) : Byte := code <<< lo

/-! Immediate fields, least significant byte first (R105, R144). -/

def takeByte : List Byte → Option (Byte × List Byte)
  | a :: r => some (a, r)
  | [] => none

def take16 : List Byte → Option (BitVec 16 × List Byte)
  | a :: b :: r => some (b ++ a, r)
  | _ => none

def take24 : List Byte → Option (BitVec 24 × List Byte)
  | a :: b :: c :: r => some (c ++ b ++ a, r)
  | _ => none

def take32 : List Byte → Option (BitVec 32 × List Byte)
  | a :: b :: c :: d :: r => some (d ++ c ++ b ++ a, r)
  | _ => none

/-- A displacement field, lengthened as the pending directive says (R145, R469). -/
def takeDisp (e : Ext) (bs : List Byte) : Option (Disp × List Byte) :=
  match e with
  | .zero => (takeByte bs).map fun p => (.d8 p.1, p.2)
  | .ib => (take16 bs).map fun p => (.d16 p.1, p.2)
  | .iw => (take24 bs).map fun p => (.d24 p.1, p.2)

/-- A 16-bit data or address field, lengthened as the pending directive says (R145, R469). -/
def takeImm (e : Ext) (bs : List Byte) : Option (Imm × List Byte) :=
  match e with
  | .zero => (take16 bs).map fun p => (.i16 p.1, p.2)
  | .ib => (take24 bs).map fun p => (.i24 p.1, p.2)
  | .iw => (take32 bs).map fun p => (.i32 p.1, p.2)

def bytes16 (v : BitVec 16) : List Byte := [v.extractLsb' 0 8, v.extractLsb' 8 8]

def bytes24 (v : BitVec 24) : List Byte := [v.extractLsb' 0 8, v.extractLsb' 8 8, v.extractLsb' 16 8]

def bytes32 (v : BitVec 32) : List Byte :=
  [v.extractLsb' 0 8, v.extractLsb' 8 8, v.extractLsb' 16 8, v.extractLsb' 24 8]

def Disp.bytes : Disp → List Byte
  | .d8 v => [v]
  | .d16 v => bytes16 v
  | .d24 v => bytes24 v

def Imm.bytes : Imm → List Byte
  | .i16 v => bytes16 v
  | .i24 v => bytes24 v
  | .i32 v => bytes32 v

/-- The instruction with its immediate fields read from `bs` (R166 step 6); none if `bs` is too short. -/
def Rest.fill (t : Rest) (e : Ext) (bs : List Byte) : Option (Instr × List Byte) :=
  match t with
  | .done i => some (i, bs)
  | .n8 f => (takeByte bs).map fun p => (f p.1, p.2)
  | .imm f => (takeImm e bs).map fun p => (f p.1, p.2)
  | .d f => (takeDisp e bs).map fun p => (f p.1, p.2)
  | .dn8 f => (takeDisp e bs).bind fun p => (takeByte p.2).map fun q => (f p.1 q.1, q.2)
  | .e8 f => (takeByte bs).map fun p => (f p.1, p.2)
  | .e16 f => (take16 bs).map fun p => (f p.1, p.2)
  | .e24 f => (take24 bs).map fun p => (f p.1, p.2)

def baseRows1 : List (Row Rest) := [
  ⟨0xFF, 0x00, fun _ => some (.done .nop)⟩,
  ⟨0xCF, 0x01, fun op => (Pair4.ofCode (field op 4 2)).map fun dd => .imm fun nn => .ldDdNn dd nn⟩,
  ⟨0xFF, 0x02, fun _ => some (.done .ldIndBcA)⟩,
  ⟨0xFF, 0x12, fun _ => some (.done .ldIndDeA)⟩,
  ⟨0xFF, 0x0A, fun _ => some (.done .ldAIndBc)⟩,
  ⟨0xFF, 0x1A, fun _ => some (.done .ldAIndDe)⟩,
  ⟨0xCF, 0x03, fun op => (Pair4.ofCode (field op 4 2)).map fun dd => .done (.incDd dd)⟩,
  ⟨0xCF, 0x0B, fun op => (Pair4.ofCode (field op 4 2)).map fun dd => .done (.decDd dd)⟩,
  ⟨0xC7, 0x04, fun op => (Reg8.ofCode (field op 3 3)).map fun r => .done (.incR r)⟩,
  ⟨0xFF, 0x34, fun _ => some (.done .incIndHl)⟩,
  ⟨0xC7, 0x05, fun op => (Reg8.ofCode (field op 3 3)).map fun r => .done (.decR r)⟩,
  ⟨0xFF, 0x35, fun _ => some (.done .decIndHl)⟩,
  ⟨0xC7, 0x06, fun op => (Reg8.ofCode (field op 3 3)).map fun r => .n8 fun n => .ldRN r n⟩,
  ⟨0xFF, 0x36, fun _ => some (.n8 fun n => .ldIndHlN n)⟩,
  ⟨0xFF, 0x07, fun _ => some (.done .rlca)⟩,
  ⟨0xFF, 0x0F, fun _ => some (.done .rrca)⟩,
  ⟨0xFF, 0x17, fun _ => some (.done .rla)⟩,
  ⟨0xFF, 0x1F, fun _ => some (.done .rra)⟩,
  ⟨0xFF, 0x08, fun _ => some (.done .exAfAfAlt)⟩,
  ⟨0xCF, 0x09, fun op => (Pair4.ofCode (field op 4 2)).map fun dd => .done (.addHlDd dd)⟩,
  ⟨0xFF, 0x10, fun _ => some (.e8 fun e => .djnzE8 e)⟩,
  ⟨0xFF, 0x18, fun _ => some (.e8 fun e => .jrE8 e)⟩,
  ⟨0xE7, 0x20, fun op => (Cond.ofJrCode (field op 3 2)).map fun cc => .e8 fun e => .jrCcE8 cc e⟩,
  ⟨0xFF, 0x22, fun _ => some (.imm fun nn => .ldDirNnHl nn)⟩,
  ⟨0xFF, 0x2A, fun _ => some (.imm fun nn => .ldHlDirNn nn)⟩,
  ⟨0xFF, 0x32, fun _ => some (.imm fun nn => .ldDirNnA nn)⟩,
  ⟨0xFF, 0x3A, fun _ => some (.imm fun nn => .ldADirNn nn)⟩,
  ⟨0xFF, 0x27, fun _ => some (.done .daa)⟩,
  ⟨0xFF, 0x2F, fun _ => some (.done .cpl)⟩,
  ⟨0xFF, 0x37, fun _ => some (.done .scf)⟩,
  ⟨0xFF, 0x3F, fun _ => some (.done .ccf)⟩,
  ⟨0xC0, 0x40, fun op => (Reg8.ofCode (field op 3 3)).bind fun r => (Reg8.ofCode (field op 0 3)).map fun r' => .done (.ldRR r r')⟩,
  ⟨0xC7, 0x46, fun op => (Reg8.ofCode (field op 3 3)).map fun r => .done (.ldRIndHl r)⟩,
  ⟨0xF8, 0x70, fun op => (Reg8.ofCode (field op 0 3)).map fun r => .done (.ldIndHlR r)⟩,
  ⟨0xFF, 0x76, fun _ => some (.done .halt)⟩,
  ⟨0xF8, 0x80, fun op => (Reg8.ofCode (field op 0 3)).map fun r => .done (.addAR r)⟩,
  ⟨0xFF, 0x86, fun _ => some (.done .addAIndHl)⟩,
  ⟨0xFF, 0xC6, fun _ => some (.n8 fun n => .addAN n)⟩,
  ⟨0xF8, 0x88, fun op => (Reg8.ofCode (field op 0 3)).map fun r => .done (.adcAR r)⟩,
  ⟨0xFF, 0x8E, fun _ => some (.done .adcAIndHl)⟩]

def baseRows2 : List (Row Rest) := [
  ⟨0xFF, 0xCE, fun _ => some (.n8 fun n => .adcAN n)⟩,
  ⟨0xF8, 0x90, fun op => (Reg8.ofCode (field op 0 3)).map fun r => .done (.subR r)⟩,
  ⟨0xFF, 0x96, fun _ => some (.done .subIndHl)⟩,
  ⟨0xFF, 0xD6, fun _ => some (.n8 fun n => .subN n)⟩,
  ⟨0xF8, 0x98, fun op => (Reg8.ofCode (field op 0 3)).map fun r => .done (.sbcAR r)⟩,
  ⟨0xFF, 0x9E, fun _ => some (.done .sbcAIndHl)⟩,
  ⟨0xFF, 0xDE, fun _ => some (.n8 fun n => .sbcAN n)⟩,
  ⟨0xF8, 0xA0, fun op => (Reg8.ofCode (field op 0 3)).map fun r => .done (.andR r)⟩,
  ⟨0xFF, 0xA6, fun _ => some (.done .andIndHl)⟩,
  ⟨0xFF, 0xE6, fun _ => some (.n8 fun n => .andN n)⟩,
  ⟨0xF8, 0xA8, fun op => (Reg8.ofCode (field op 0 3)).map fun r => .done (.xorR r)⟩,
  ⟨0xFF, 0xAE, fun _ => some (.done .xorIndHl)⟩,
  ⟨0xFF, 0xEE, fun _ => some (.n8 fun n => .xorN n)⟩,
  ⟨0xF8, 0xB0, fun op => (Reg8.ofCode (field op 0 3)).map fun r => .done (.orR r)⟩,
  ⟨0xFF, 0xB6, fun _ => some (.done .orIndHl)⟩,
  ⟨0xFF, 0xF6, fun _ => some (.n8 fun n => .orN n)⟩,
  ⟨0xF8, 0xB8, fun op => (Reg8.ofCode (field op 0 3)).map fun r => .done (.cpR r)⟩,
  ⟨0xFF, 0xBE, fun _ => some (.done .cpIndHl)⟩,
  ⟨0xFF, 0xFE, fun _ => some (.n8 fun n => .cpN n)⟩,
  ⟨0xC7, 0xC0, fun op => (Cond.ofCode (field op 3 3)).map fun cc => .done (.retCc cc)⟩,
  ⟨0xCF, 0xC1, fun op => (Pair.ofQq (field op 4 2)).map fun qq => .done (.popQq qq)⟩,
  ⟨0xFF, 0xF1, fun _ => some (.done .popAf)⟩,
  ⟨0xC7, 0xC2, fun op => (Cond.ofCode (field op 3 3)).map fun cc => .imm fun nn => .jpCcNn cc nn⟩,
  ⟨0xFF, 0xC3, fun _ => some (.imm fun nn => .jpNn nn)⟩,
  ⟨0xC7, 0xC4, fun op => (Cond.ofCode (field op 3 3)).map fun cc => .imm fun nn => .callCcNn cc nn⟩,
  ⟨0xCF, 0xC5, fun op => (Pair.ofQq (field op 4 2)).map fun qq => .done (.pushQq qq)⟩,
  ⟨0xFF, 0xF5, fun _ => some (.done .pushAf)⟩,
  ⟨0xC7, 0xC7, fun op => some (.done (.rstP (field op 3 3)))⟩,
  ⟨0xFF, 0xC9, fun _ => some (.done .ret)⟩,
  ⟨0xFF, 0xCD, fun _ => some (.imm fun nn => .callNn nn)⟩,
  ⟨0xFF, 0xD3, fun _ => some (.n8 fun n => .outPortNA n)⟩,
  ⟨0xFF, 0xDB, fun _ => some (.n8 fun n => .inAPortN n)⟩,
  ⟨0xFF, 0xD9, fun _ => some (.done .exx)⟩,
  ⟨0xFF, 0xE3, fun _ => some (.done .exIndSpHl)⟩,
  ⟨0xFF, 0xE9, fun _ => some (.done .jpIndHl)⟩,
  ⟨0xFF, 0xEB, fun _ => some (.done .exDeHl)⟩,
  ⟨0xFF, 0xF3, fun _ => some (.done .di)⟩,
  ⟨0xFF, 0xFB, fun _ => some (.done .ei)⟩,
  ⟨0xFF, 0xF9, fun _ => some (.done .ldSpHl)⟩]

/-- R147: the unprefixed page. -/
def baseRows : List (Row Rest) :=
  baseRows1 ++ baseRows2

/-- R148: page CB. -/
def cbRows : List (Row Rest) := [
  ⟨0xF8, 0x00, fun op => (Reg8.ofCode (field op 0 3)).map fun r => .done (.rlcR r)⟩,
  ⟨0xFF, 0x06, fun _ => some (.done .rlcIndHl)⟩,
  ⟨0xF8, 0x08, fun op => (Reg8.ofCode (field op 0 3)).map fun r => .done (.rrcR r)⟩,
  ⟨0xFF, 0x0E, fun _ => some (.done .rrcIndHl)⟩,
  ⟨0xF8, 0x10, fun op => (Reg8.ofCode (field op 0 3)).map fun r => .done (.rlR r)⟩,
  ⟨0xFF, 0x16, fun _ => some (.done .rlIndHl)⟩,
  ⟨0xF8, 0x18, fun op => (Reg8.ofCode (field op 0 3)).map fun r => .done (.rrR r)⟩,
  ⟨0xFF, 0x1E, fun _ => some (.done .rrIndHl)⟩,
  ⟨0xF8, 0x20, fun op => (Reg8.ofCode (field op 0 3)).map fun r => .done (.slaR r)⟩,
  ⟨0xFF, 0x26, fun _ => some (.done .slaIndHl)⟩,
  ⟨0xF8, 0x28, fun op => (Reg8.ofCode (field op 0 3)).map fun r => .done (.sraR r)⟩,
  ⟨0xFF, 0x2E, fun _ => some (.done .sraIndHl)⟩,
  ⟨0xF8, 0x38, fun op => (Reg8.ofCode (field op 0 3)).map fun r => .done (.srlR r)⟩,
  ⟨0xFF, 0x3E, fun _ => some (.done .srlIndHl)⟩,
  ⟨0xF8, 0x30, fun op => (Reg8.ofCode (field op 0 3)).map fun r => .done (.exRRAlt r)⟩,
  ⟨0xC0, 0x40, fun op => (Reg8.ofCode (field op 0 3)).map fun r => .done (.bitBR (field op 3 3) r)⟩,
  ⟨0xC7, 0x46, fun op => some (.done (.bitBIndHl (field op 3 3)))⟩,
  ⟨0xC0, 0x80, fun op => (Reg8.ofCode (field op 0 3)).map fun r => .done (.resBR (field op 3 3) r)⟩,
  ⟨0xC7, 0x86, fun op => some (.done (.resBIndHl (field op 3 3)))⟩,
  ⟨0xC0, 0xC0, fun op => (Reg8.ofCode (field op 0 3)).map fun r => .done (.setBR (field op 3 3) r)⟩,
  ⟨0xC7, 0xC6, fun op => some (.done (.setBIndHl (field op 3 3)))⟩]

def edRows1 : List (Row Rest) := [
  ⟨0xCF, 0x02, fun op => (Pair.ofPp (field op 4 2)).map fun pp => .done (.ldPpBc pp)⟩,
  ⟨0xFC, 0x84, fun op => (Pair.ofPp (field op 0 2)).map fun pp => .done (.addwHlPp pp)⟩,
  ⟨0xFF, 0x86, fun _ => some (.imm fun nn => .addwHlNn nn)⟩,
  ⟨0xFC, 0x8C, fun op => (Pair.ofPp (field op 0 2)).map fun pp => .done (.adcwHlPp pp)⟩,
  ⟨0xFF, 0x8E, fun _ => some (.imm fun nn => .adcwHlNn nn)⟩,
  ⟨0xFC, 0x94, fun op => (Pair.ofPp (field op 0 2)).map fun pp => .done (.subwHlPp pp)⟩,
  ⟨0xFF, 0x96, fun _ => some (.imm fun nn => .subwHlNn nn)⟩,
  ⟨0xFC, 0x9C, fun op => (Pair.ofPp (field op 0 2)).map fun pp => .done (.sbcwHlPp pp)⟩,
  ⟨0xFF, 0x9E, fun _ => some (.imm fun nn => .sbcwHlNn nn)⟩,
  ⟨0xFC, 0xA4, fun op => (Pair.ofPp (field op 0 2)).map fun pp => .done (.andwHlPp pp)⟩,
  ⟨0xFF, 0xA6, fun _ => some (.imm fun nn => .andwHlNn nn)⟩,
  ⟨0xFC, 0xAC, fun op => (Pair.ofPp (field op 0 2)).map fun pp => .done (.xorwHlPp pp)⟩,
  ⟨0xFF, 0xAE, fun _ => some (.imm fun nn => .xorwHlNn nn)⟩,
  ⟨0xFC, 0xB4, fun op => (Pair.ofPp (field op 0 2)).map fun pp => .done (.orwHlPp pp)⟩,
  ⟨0xFF, 0xB6, fun _ => some (.imm fun nn => .orwHlNn nn)⟩,
  ⟨0xFC, 0xBC, fun op => (Pair.ofPp (field op 0 2)).map fun pp => .done (.cpwHlPp pp)⟩,
  ⟨0xFF, 0xBE, fun _ => some (.imm fun nn => .cpwHlNn nn)⟩,
  ⟨0xC7, 0x00, fun op => (Reg8.ofCode (field op 3 3)).map fun r => .n8 fun n => .in0RPortN r n⟩,
  ⟨0xFF, 0x30, fun _ => some (.n8 fun n => .in0PortN n)⟩,
  ⟨0xC7, 0x01, fun op => (Reg8.ofCode (field op 3 3)).map fun r => .n8 fun n => .out0PortNR n r⟩,
  ⟨0xFF, 0x03, fun _ => some (.done .exBcIx)⟩,
  ⟨0xFF, 0x0B, fun _ => some (.done .exBcIy)⟩,
  ⟨0xFF, 0x13, fun _ => some (.done .exDeIx)⟩,
  ⟨0xFF, 0x1B, fun _ => some (.done .exDeIy)⟩,
  ⟨0xFF, 0x33, fun _ => some (.done .exHlIx)⟩,
  ⟨0xFF, 0x3B, fun _ => some (.done .exHlIy)⟩,
  ⟨0xFF, 0x2B, fun _ => some (.done .exIxIy)⟩,
  ⟨0xC7, 0x04, fun op => (Reg8.ofCode (field op 3 3)).map fun r => .done (.tstR r)⟩,
  ⟨0xFF, 0x34, fun _ => some (.done .tstIndHl)⟩,
  ⟨0xFF, 0x64, fun _ => some (.n8 fun n => .tstN n)⟩,
  ⟨0xFF, 0x05, fun _ => some (.done .exBcDe)⟩,
  ⟨0xFF, 0x0D, fun _ => some (.done .exBcHl)⟩,
  ⟨0xCF, 0x06, fun op => (Pair.ofPp (field op 4 2)).map fun pp => .imm fun nn => .ldIndPpNn pp nn⟩,
  ⟨0xC7, 0x07, fun op => (Reg8.ofCode (field op 3 3)).map fun r => .done (.exAR r)⟩,
  ⟨0xFF, 0x37, fun _ => some (.done .exAIndHl)⟩,
  ⟨0xCF, 0x0E, fun op => (Pair.ofPp (field op 4 2)).map fun pp => .done (.swapPp pp)⟩,
  ⟨0xC7, 0x40, fun op => (Reg8.ofCode (field op 3 3)).map fun r => .done (.inRPortC r)⟩,
  ⟨0xC7, 0x41, fun op => (Reg8.ofCode (field op 3 3)).map fun r => .done (.outPortCR r)⟩,
  ⟨0xFF, 0x71, fun _ => some (.n8 fun n => .outPortCN n)⟩,
  ⟨0xCF, 0x42, fun op => (Pair4.ofCode (field op 4 2)).map fun dd => .done (.sbcHlDd dd)⟩]

def edRows2 : List (Row Rest) := [
  ⟨0xCF, 0x4A, fun op => (Pair4.ofCode (field op 4 2)).map fun dd => .done (.adcHlDd dd)⟩,
  ⟨0xCF, 0x43, fun op => (Pair4.ofCode (field op 4 2)).map fun dd => .imm fun nn => .ldDirNnDd nn dd⟩,
  ⟨0xCF, 0x4B, fun op => (Pair4.ofCode (field op 4 2)).map fun dd => .imm fun nn => .ldDdDirNn dd nn⟩,
  ⟨0xFF, 0x44, fun _ => some (.done .neg)⟩,
  ⟨0xFF, 0x54, fun _ => some (.done .negw)⟩,
  ⟨0xFF, 0x45, fun _ => some (.done .retn)⟩,
  ⟨0xFF, 0x4D, fun _ => some (.done .reti)⟩,
  ⟨0xFF, 0x46, fun _ => some (.done .im0)⟩,
  ⟨0xFF, 0x56, fun _ => some (.done .im1)⟩,
  ⟨0xFF, 0x5E, fun _ => some (.done .im2)⟩,
  ⟨0xFF, 0x4E, fun _ => some (.done .im3)⟩,
  ⟨0xFF, 0x47, fun _ => some (.done .ldIA)⟩,
  ⟨0xFF, 0x4F, fun _ => some (.done .ldRA)⟩,
  ⟨0xFF, 0x57, fun _ => some (.done .ldAI)⟩,
  ⟨0xFF, 0x5F, fun _ => some (.done .ldAR)⟩,
  ⟨0xCF, 0x4C, fun op => (Pair4.ofCode (field op 4 2)).map fun dd => .done (.mltDd dd)⟩,
  ⟨0xFF, 0x65, fun _ => some (.done .exts)⟩,
  ⟨0xFF, 0x75, fun _ => some (.done .extsw)⟩,
  ⟨0xFF, 0x67, fun _ => some (.done .rrd)⟩,
  ⟨0xFF, 0x6F, fun _ => some (.done .rld)⟩,
  ⟨0xFF, 0x74, fun _ => some (.n8 fun n => .tstioN n)⟩,
  ⟨0xFF, 0x76, fun _ => some (.done .slp)⟩,
  ⟨0xFF, 0x82, fun _ => some (.imm fun nn => .addSpNn nn)⟩,
  ⟨0xFF, 0x92, fun _ => some (.imm fun nn => .subSpNn nn)⟩,
  ⟨0xFF, 0x83, fun _ => some (.done .otim)⟩,
  ⟨0xFF, 0x8B, fun _ => some (.done .otdm)⟩,
  ⟨0xFF, 0x93, fun _ => some (.done .otimr)⟩,
  ⟨0xFF, 0x9B, fun _ => some (.done .otdmr)⟩,
  ⟨0xFF, 0xA0, fun _ => some (.done .ldi)⟩,
  ⟨0xFF, 0xA1, fun _ => some (.done .cpi)⟩,
  ⟨0xFF, 0xA2, fun _ => some (.done .ini)⟩,
  ⟨0xFF, 0xA3, fun _ => some (.done .outi)⟩,
  ⟨0xFF, 0xA8, fun _ => some (.done .ldd)⟩,
  ⟨0xFF, 0xA9, fun _ => some (.done .cpd)⟩,
  ⟨0xFF, 0xAA, fun _ => some (.done .ind)⟩,
  ⟨0xFF, 0xAB, fun _ => some (.done .outd)⟩,
  ⟨0xFF, 0xB0, fun _ => some (.done .ldir)⟩,
  ⟨0xFF, 0xB1, fun _ => some (.done .cpir)⟩,
  ⟨0xFF, 0xB2, fun _ => some (.done .inir)⟩,
  ⟨0xFF, 0xB3, fun _ => some (.done .otir)⟩]

def edRows3 : List (Row Rest) := [
  ⟨0xFF, 0xB8, fun _ => some (.done .lddr)⟩,
  ⟨0xFF, 0xB9, fun _ => some (.done .cpdr)⟩,
  ⟨0xFF, 0xBA, fun _ => some (.done .indr)⟩,
  ⟨0xFF, 0xBB, fun _ => some (.done .otdr)⟩,
  ⟨0xFF, 0xC0, fun _ => some (.done .ldctlHlSr)⟩,
  ⟨0xFF, 0xC8, fun _ => some (.done .ldctlSrHl)⟩,
  ⟨0xFF, 0xC1, fun _ => some (.done .popSr)⟩,
  ⟨0xFF, 0xC5, fun _ => some (.done .pushSr)⟩,
  ⟨0xFF, 0xC6, fun _ => some (.imm fun nn => .addHlDirNn nn)⟩,
  ⟨0xFF, 0xD6, fun _ => some (.imm fun nn => .subHlDirNn nn)⟩,
  ⟨0xC7, 0xC4, fun op => (Cond.ofCode (field op 3 3)).map fun cc => .e8 fun e => .calrCcE8 cc e⟩,
  ⟨0xFF, 0xCD, fun _ => some (.e8 fun e => .calrE8 e)⟩,
  ⟨0xFF, 0xCF, fun _ => some (.done .btest)⟩,
  ⟨0xFF, 0xD0, fun _ => some (.done .ldctlADsr)⟩,
  ⟨0xFF, 0xD8, fun _ => some (.done .ldctlDsrA)⟩,
  ⟨0xFF, 0xDA, fun _ => some (.n8 fun n => .ldctlDsrN n)⟩,
  ⟨0xFF, 0xD3, fun _ => some (.imm fun nn => .outaDirNnA nn)⟩,
  ⟨0xFF, 0xDB, fun _ => some (.imm fun nn => .inaADirNn nn)⟩,
  ⟨0xFF, 0xD9, fun _ => some (.done .exall)⟩,
  ⟨0xFF, 0xE0, fun _ => some (.done .ldiw)⟩,
  ⟨0xFF, 0xE8, fun _ => some (.done .lddw)⟩,
  ⟨0xFF, 0xF0, fun _ => some (.done .ldirw)⟩,
  ⟨0xFF, 0xF8, fun _ => some (.done .lddrw)⟩,
  ⟨0xFF, 0xE2, fun _ => some (.done .iniw)⟩,
  ⟨0xFF, 0xEA, fun _ => some (.done .indw)⟩,
  ⟨0xFF, 0xF2, fun _ => some (.done .inirw)⟩,
  ⟨0xFF, 0xFA, fun _ => some (.done .indrw)⟩,
  ⟨0xFF, 0xE3, fun _ => some (.done .outiw)⟩,
  ⟨0xFF, 0xEB, fun _ => some (.done .outdw)⟩,
  ⟨0xFF, 0xF3, fun _ => some (.done .otirw)⟩,
  ⟨0xFF, 0xFB, fun _ => some (.done .otdrw)⟩,
  ⟨0xFF, 0xF7, fun _ => some (.done .setcLck)⟩,
  ⟨0xFF, 0xFF, fun _ => some (.done .rescLck)⟩]

/-- R151: page ED. -/
def edRows : List (Row Rest) :=
  edRows1 ++ edRows2 ++ edRows3

/-- R152: page ED CB. -/
def edcbRows : List (Row Rest) := [
  ⟨0xF8, 0x00, fun op => (WordOp.ofCode (field op 0 3)).map fun x => .done (.rlcwWop x)⟩,
  ⟨0xF8, 0x08, fun op => (WordOp.ofCode (field op 0 3)).map fun x => .done (.rrcwWop x)⟩,
  ⟨0xF8, 0x10, fun op => (WordOp.ofCode (field op 0 3)).map fun x => .done (.rlwWop x)⟩,
  ⟨0xF8, 0x18, fun op => (WordOp.ofCode (field op 0 3)).map fun x => .done (.rrwWop x)⟩,
  ⟨0xF8, 0x20, fun op => (WordOp.ofCode (field op 0 3)).map fun x => .done (.slawWop x)⟩,
  ⟨0xF8, 0x28, fun op => (WordOp.ofCode (field op 0 3)).map fun x => .done (.srawWop x)⟩,
  ⟨0xF8, 0x38, fun op => (WordOp.ofCode (field op 0 3)).map fun x => .done (.srlwWop x)⟩,
  ⟨0xFF, 0x30, fun _ => some (.done .exBcBcAlt)⟩,
  ⟨0xFF, 0x31, fun _ => some (.done .exDeDeAlt)⟩,
  ⟨0xFF, 0x33, fun _ => some (.done .exHlHlAlt)⟩,
  ⟨0xFF, 0x34, fun _ => some (.done .exIxIxAlt)⟩,
  ⟨0xFF, 0x35, fun _ => some (.done .exIyIyAlt)⟩,
  ⟨0xF8, 0x90, fun op => (WordOp.ofCodeReg (field op 0 3)).map fun x => .done (.multwHlWop x)⟩,
  ⟨0xFF, 0x97, fun _ => some (.imm fun nn => .multwHlNn nn)⟩,
  ⟨0xF8, 0x98, fun op => (WordOp.ofCodeReg (field op 0 3)).map fun x => .done (.multuwHlWop x)⟩,
  ⟨0xFF, 0x9F, fun _ => some (.imm fun nn => .multuwHlNn nn)⟩,
  ⟨0xF8, 0xB8, fun op => (WordOp.ofCodeReg (field op 0 3)).map fun x => .done (.divuwHlWop x)⟩,
  ⟨0xFF, 0xBF, fun _ => some (.imm fun nn => .divuwHlNn nn)⟩]

def xyRows1 (y : Idx) : List (Row Rest) := [
  ⟨0xCF, 0x09, fun op => (AddSrc.ofCode (field op 4 2)).map fun tt => .done (.addXyTt y tt)⟩,
  ⟨0xCF, 0x01, fun op => (Pair.ofPp (field op 4 2)).map fun pp => .done (.ldIndPpXy pp y)⟩,
  ⟨0xCF, 0x03, fun op => (Pair.ofPp (field op 4 2)).map fun pp => .done (.ldXyIndPp y pp)⟩,
  ⟨0xCF, 0x07, fun op => (Pair.ofPp (field op 4 2)).map fun pp => .done (.ldXyPp y pp)⟩,
  ⟨0xCF, 0x0B, fun op => (Pair.ofPp (field op 4 2)).map fun pp => .done (.ldPpXy pp y)⟩,
  ⟨0xFF, 0x21, fun _ => some (.imm fun nn => .ldXyNn y nn)⟩,
  ⟨0xFF, 0x22, fun _ => some (.imm fun nn => .ldDirNnXy nn y)⟩,
  ⟨0xFF, 0x2A, fun _ => some (.imm fun nn => .ldXyDirNn y nn)⟩,
  ⟨0xFF, 0x23, fun _ => some (.done (.incXy y))⟩,
  ⟨0xFF, 0x2B, fun _ => some (.done (.decXy y))⟩,
  ⟨0xF7, 0x24, fun op => (Half.ofCode (field op 3 1)).map fun h => .done (.incHalf y h)⟩,
  ⟨0xF7, 0x25, fun op => (Half.ofCode (field op 3 1)).map fun h => .done (.decHalf y h)⟩,
  ⟨0xF7, 0x26, fun op => (Half.ofCode (field op 3 1)).map fun h => .n8 fun n => .ldHalfN y h n⟩,
  ⟨0xFF, 0x34, fun _ => some (.d fun d => .incIdxD y d)⟩,
  ⟨0xFF, 0x35, fun _ => some (.d fun d => .decIdxD y d)⟩,
  ⟨0xFF, 0x36, fun _ => some (.dn8 fun d n => .ldIdxDN y d n)⟩,
  ⟨0xFF, 0x3E, fun _ => some (.done (.swapXy y))⟩,
  ⟨0xF0, 0x60, fun op => (Half.ofCode (field op 3 1)).bind fun h => (HalfSrc.ofCode (field op 0 3)).map fun src => .done (.ldHalfS y h src)⟩,
  ⟨0xC6, 0x44, fun op => (Reg8.ofCodeBesideHalf (field op 3 3)).bind fun r => (Half.ofCode (field op 0 1)).map fun h => .done (.ldRHalf r y h)⟩,
  ⟨0xC7, 0x46, fun op => (Reg8.ofCode (field op 3 3)).map fun r => .d fun d => .ldRIdxD r y d⟩,
  ⟨0xF8, 0x70, fun op => (Reg8.ofCode (field op 0 3)).map fun r => .d fun d => .ldIdxDR y d r⟩,
  ⟨0xFE, 0x84, fun op => (Half.ofCode (field op 0 1)).map fun h => .done (.addAHalf y h)⟩,
  ⟨0xFF, 0x86, fun _ => some (.d fun d => .addAIdxD y d)⟩,
  ⟨0xFE, 0x8C, fun op => (Half.ofCode (field op 0 1)).map fun h => .done (.adcAHalf y h)⟩,
  ⟨0xFF, 0x8E, fun _ => some (.d fun d => .adcAIdxD y d)⟩,
  ⟨0xFE, 0x94, fun op => (Half.ofCode (field op 0 1)).map fun h => .done (.subHalf y h)⟩,
  ⟨0xFF, 0x96, fun _ => some (.d fun d => .subIdxD y d)⟩,
  ⟨0xFE, 0x9C, fun op => (Half.ofCode (field op 0 1)).map fun h => .done (.sbcAHalf y h)⟩,
  ⟨0xFF, 0x9E, fun _ => some (.d fun d => .sbcAIdxD y d)⟩,
  ⟨0xFE, 0xA4, fun op => (Half.ofCode (field op 0 1)).map fun h => .done (.andHalf y h)⟩,
  ⟨0xFF, 0xA6, fun _ => some (.d fun d => .andIdxD y d)⟩,
  ⟨0xFE, 0xAC, fun op => (Half.ofCode (field op 0 1)).map fun h => .done (.xorHalf y h)⟩,
  ⟨0xFF, 0xAE, fun _ => some (.d fun d => .xorIdxD y d)⟩,
  ⟨0xFE, 0xB4, fun op => (Half.ofCode (field op 0 1)).map fun h => .done (.orHalf y h)⟩,
  ⟨0xFF, 0xB6, fun _ => some (.d fun d => .orIdxD y d)⟩,
  ⟨0xFE, 0xBC, fun op => (Half.ofCode (field op 0 1)).map fun h => .done (.cpHalf y h)⟩,
  ⟨0xFF, 0xBE, fun _ => some (.d fun d => .cpIdxD y d)⟩,
  ⟨0xFF, 0x87, fun _ => some (.done (.addwHlXy y))⟩,
  ⟨0xFF, 0xC6, fun _ => some (.d fun d => .addwHlIdxD y d)⟩,
  ⟨0xFF, 0x8F, fun _ => some (.done (.adcwHlXy y))⟩]

def xyRows2 (y : Idx) : List (Row Rest) := [
  ⟨0xFF, 0xCE, fun _ => some (.d fun d => .adcwHlIdxD y d)⟩,
  ⟨0xFF, 0x97, fun _ => some (.done (.subwHlXy y))⟩,
  ⟨0xFF, 0xD6, fun _ => some (.d fun d => .subwHlIdxD y d)⟩,
  ⟨0xFF, 0x9F, fun _ => some (.done (.sbcwHlXy y))⟩,
  ⟨0xFF, 0xDE, fun _ => some (.d fun d => .sbcwHlIdxD y d)⟩,
  ⟨0xFF, 0xA7, fun _ => some (.done (.andwHlXy y))⟩,
  ⟨0xFF, 0xE6, fun _ => some (.d fun d => .andwHlIdxD y d)⟩,
  ⟨0xFF, 0xAF, fun _ => some (.done (.xorwHlXy y))⟩,
  ⟨0xFF, 0xEE, fun _ => some (.d fun d => .xorwHlIdxD y d)⟩,
  ⟨0xFF, 0xB7, fun _ => some (.done (.orwHlXy y))⟩,
  ⟨0xFF, 0xF6, fun _ => some (.d fun d => .orwHlIdxD y d)⟩,
  ⟨0xFF, 0xBF, fun _ => some (.done (.cpwHlXy y))⟩,
  ⟨0xFF, 0xFE, fun _ => some (.d fun d => .cpwHlIdxD y d)⟩,
  ⟨0xFF, 0xE1, fun _ => some (.done (.popXy y))⟩,
  ⟨0xFF, 0xE3, fun _ => some (.done (.exIndSpXy y))⟩,
  ⟨0xFF, 0xE5, fun _ => some (.done (.pushXy y))⟩,
  ⟨0xFF, 0xE9, fun _ => some (.done (.jpIndXy y))⟩,
  ⟨0xFF, 0xF9, fun _ => some (.done (.ldSpXy y))⟩]

/-- R149: the rows pages DD and FD share, `y` being the index register the prefix byte selects. -/
def xyRows (y : Idx) : List (Row Rest) :=
  xyRows1 y ++ xyRows2 y

/-- R149: the rows of page DD alone. -/
def ddRows : List (Row Rest) := [
  ⟨0xCC, 0x0C, fun op => (Pair.ofPp (field op 4 2)).bind fun pp => (Pair.ofPp (field op 0 2)).map fun uu => .done (.ldPpIndUu pp uu)⟩,
  ⟨0xCF, 0x02, fun op => (Pair.ofPp (field op 4 2)).map fun pp => .done (.ldPpDe pp)⟩,
  ⟨0xFF, 0x10, fun _ => some (.e16 fun e => .djnzE16 e)⟩,
  ⟨0xFF, 0x18, fun _ => some (.e16 fun e => .jrE16 e)⟩,
  ⟨0xE7, 0x20, fun op => (Cond.ofJrCode (field op 3 2)).map fun cc => .e16 fun e => .jrCcE16 cc e⟩,
  ⟨0xFF, 0x27, fun _ => some (.done .ldIxIy)⟩,
  ⟨0xFF, 0x2F, fun _ => some (.done .cplw)⟩,
  ⟨0xFF, 0x40, fun _ => some (.done .inwBcPortC)⟩,
  ⟨0xFF, 0x50, fun _ => some (.done .inwDePortC)⟩,
  ⟨0xFF, 0x78, fun _ => some (.done .inwHlPortC)⟩,
  ⟨0xFF, 0x41, fun _ => some (.done .outwPortCBc)⟩,
  ⟨0xFF, 0x51, fun _ => some (.done .outwPortCDe)⟩,
  ⟨0xFF, 0x79, fun _ => some (.done .outwPortCHl)⟩,
  ⟨0xFF, 0x47, fun _ => some (.done .ldIHl)⟩,
  ⟨0xFF, 0x57, fun _ => some (.done .ldHlI)⟩,
  ⟨0xFF, 0xC0, fun _ => some (.done .ddirW)⟩,
  ⟨0xFF, 0xC1, fun _ => some (.done .ddirIbW)⟩,
  ⟨0xFF, 0xC2, fun _ => some (.done .ddirIwW)⟩,
  ⟨0xFF, 0xC3, fun _ => some (.done .ddirIb)⟩,
  ⟨0xC7, 0xC4, fun op => (Cond.ofCode (field op 3 3)).map fun cc => .e16 fun e => .calrCcE16 cc e⟩,
  ⟨0xFF, 0xCD, fun _ => some (.e16 fun e => .calrE16 e)⟩,
  ⟨0xFF, 0xC8, fun _ => some (.done .ldctlSrA)⟩,
  ⟨0xFF, 0xCA, fun _ => some (.n8 fun n => .ldctlSrN n)⟩,
  ⟨0xFF, 0xCF, fun _ => some (.done .mtest)⟩,
  ⟨0xFF, 0xD0, fun _ => some (.done .ldctlAXsr)⟩,
  ⟨0xFF, 0xD8, fun _ => some (.done .ldctlXsrA)⟩,
  ⟨0xFF, 0xDA, fun _ => some (.n8 fun n => .ldctlXsrN n)⟩,
  ⟨0xFF, 0xD9, fun _ => some (.done .exxx)⟩,
  ⟨0xFF, 0xF3, fun _ => some (.n8 fun n => .diN n)⟩,
  ⟨0xFF, 0xFB, fun _ => some (.n8 fun n => .eiN n)⟩,
  ⟨0xFF, 0xF7, fun _ => some (.done .setcLw)⟩,
  ⟨0xFF, 0xFF, fun _ => some (.done .rescLw)⟩]

/-- R149: the rows of page FD alone. -/
def fdRows : List (Row Rest) := [
  ⟨0xCC, 0x0C, fun op => (Pair.ofPp (field op 0 2)).bind fun pp => (Pair.ofPp (field op 4 2)).map fun uu => .done (.ldIndPpUu pp uu)⟩,
  ⟨0xCF, 0x02, fun op => (Pair.ofPp (field op 4 2)).map fun pp => .done (.ldPpHl pp)⟩,
  ⟨0xFF, 0x10, fun _ => some (.e24 fun e => .djnzE24 e)⟩,
  ⟨0xFF, 0x18, fun _ => some (.e24 fun e => .jrE24 e)⟩,
  ⟨0xE7, 0x20, fun op => (Cond.ofJrCode (field op 3 2)).map fun cc => .e24 fun e => .jrCcE24 cc e⟩,
  ⟨0xFF, 0x27, fun _ => some (.done .ldIyIx)⟩,
  ⟨0xFF, 0x79, fun _ => some (.imm fun nn => .outwPortCNn nn)⟩,
  ⟨0xFF, 0xC0, fun _ => some (.done .ddirLw)⟩,
  ⟨0xFF, 0xC1, fun _ => some (.done .ddirIbLw)⟩,
  ⟨0xFF, 0xC2, fun _ => some (.done .ddirIwLw)⟩,
  ⟨0xFF, 0xC3, fun _ => some (.done .ddirIw)⟩,
  ⟨0xC7, 0xC4, fun op => (Cond.ofCode (field op 3 3)).map fun cc => .e24 fun e => .calrCcE24 cc e⟩,
  ⟨0xFF, 0xCD, fun _ => some (.e24 fun e => .calrE24 e)⟩,
  ⟨0xFF, 0xD0, fun _ => some (.done .ldctlAYsr)⟩,
  ⟨0xFF, 0xD8, fun _ => some (.done .ldctlYsrA)⟩,
  ⟨0xFF, 0xDA, fun _ => some (.n8 fun n => .ldctlYsrN n)⟩,
  ⟨0xFF, 0xD9, fun _ => some (.done .exxy)⟩,
  ⟨0xFF, 0xD3, fun _ => some (.imm fun nn => .outawDirNnHl nn)⟩,
  ⟨0xFF, 0xDB, fun _ => some (.imm fun nn => .inawHlDirNn nn)⟩,
  ⟨0xFF, 0xF7, fun _ => some (.done .setcXm)⟩,
  ⟨0xFF, 0xF5, fun _ => some (.imm fun nn => .pushNn nn)⟩]

/-- R150: the rows pages DD CB d and FD CB d share; the displacement has been read. -/
def xycbRows (y : Idx) : List (Row (Disp → Instr)) := [
  ⟨0xFF, 0x06, fun _ => some (fun d => .rlcIdxD y d)⟩,
  ⟨0xFF, 0x0E, fun _ => some (fun d => .rrcIdxD y d)⟩,
  ⟨0xFF, 0x16, fun _ => some (fun d => .rlIdxD y d)⟩,
  ⟨0xFF, 0x1E, fun _ => some (fun d => .rrIdxD y d)⟩,
  ⟨0xFF, 0x26, fun _ => some (fun d => .slaIdxD y d)⟩,
  ⟨0xFF, 0x2E, fun _ => some (fun d => .sraIdxD y d)⟩,
  ⟨0xFF, 0x3E, fun _ => some (fun d => .srlIdxD y d)⟩,
  ⟨0xC7, 0x46, fun op => some (fun d => .bitBIdxD (field op 3 3) y d)⟩,
  ⟨0xC7, 0x86, fun op => some (fun d => .resBIdxD (field op 3 3) y d)⟩,
  ⟨0xC7, 0xC6, fun op => some (fun d => .setBIdxD (field op 3 3) y d)⟩,
  ⟨0xFF, 0x02, fun _ => some (fun d => .rlcwIdxD y d)⟩,
  ⟨0xFF, 0x0A, fun _ => some (fun d => .rrcwIdxD y d)⟩,
  ⟨0xFF, 0x12, fun _ => some (fun d => .rlwIdxD y d)⟩,
  ⟨0xFF, 0x1A, fun _ => some (fun d => .rrwIdxD y d)⟩,
  ⟨0xFF, 0x22, fun _ => some (fun d => .slawIdxD y d)⟩,
  ⟨0xFF, 0x2A, fun _ => some (fun d => .srawIdxD y d)⟩,
  ⟨0xFF, 0x3A, fun _ => some (fun d => .srlwIdxD y d)⟩,
  ⟨0xFF, 0x21, fun _ => some (fun d => .ldXySpD y d)⟩,
  ⟨0xCF, 0x03, fun op => (Pair.ofPp (field op 4 2)).map fun pp => fun d => .ldPpIdxD pp y d⟩,
  ⟨0xFF, 0x23, fun _ => some (fun d => .ldYxIdxD y d)⟩,
  ⟨0xFF, 0x29, fun _ => some (fun d => .ldSpDXy d y)⟩,
  ⟨0xCF, 0x0B, fun op => (Pair.ofPp (field op 4 2)).map fun pp => fun d => .ldIdxDPp y d pp⟩,
  ⟨0xFF, 0x2B, fun _ => some (fun d => .ldIdxDYx y d)⟩,
  ⟨0xFF, 0x92, fun _ => some (fun d => .multwHlIdxD y d)⟩,
  ⟨0xFF, 0x9A, fun _ => some (fun d => .multuwHlIdxD y d)⟩,
  ⟨0xFF, 0xBA, fun _ => some (fun d => .divuwHlIdxD y d)⟩]

/-- R150: the rows of page DD CB d alone. -/
def ddcbRows : List (Row (Disp → Instr)) := [
  ⟨0xCF, 0x01, fun op => (Pair.ofPp (field op 4 2)).map fun pp => fun d => .ldPpSpD pp d⟩,
  ⟨0xCF, 0x09, fun op => (Pair.ofPp (field op 4 2)).map fun pp => fun d => .ldSpDPp d pp⟩]

/-- The rows of page DD (IX) or FD (IY). -/
def idxRows (y : Idx) : List (Row Rest) :=
  match y with
  | .ix => ddRows ++ xyRows .ix
  | .iy => fdRows ++ xyRows .iy

/-- The rows of page DD CB d (IX) or FD CB d (IY). -/
def idxCbRows (y : Idx) : List (Row (Disp → Instr)) :=
  match y with
  | .ix => ddcbRows ++ xycbRows .ix
  | .iy => xycbRows .iy

def Idx.page : Idx → Page
  | .ix => .dd
  | .iy => .fd

def Idx.cbPage : Idx → Page
  | .ix => .ddcb
  | .iy => .fdcb

abbrev Decoded := Except DecodeError (Instr × List Byte)

/-- An opcode byte looked up in its page and its immediate fields read (R166 steps 5 and 6). -/
def decodeIn (page : Page) (rows : List (Row Rest)) (e : Ext) (op : Byte) (bs : List Byte) : Decoded :=
  match lookup rows op with
  | none => .error (.unassigned page op)
  | some t =>
    match t.fill e bs with
    | none => .error .truncated
    | some p => .ok p

/-- R166 step 4, second byte CBh: the displacement, then the opcode byte. -/
def decodeIdxCb (y : Idx) (e : Ext) (bs : List Byte) : Decoded :=
  match takeDisp e bs with
  | none => .error .truncated
  | some (d, r) =>
    match r with
    | [] => .error .truncated
    | op :: r' =>
      match lookup (idxCbRows y) op with
      | none => .error (.unassigned y.cbPage op)
      | some f => .ok (f d, r')

/-- R166 step 4: after a DDh or FDh byte. -/
def decodeIdx (y : Idx) (e : Ext) (bs : List Byte) : Decoded :=
  match bs with
  | [] => .error .truncated
  | b :: r => if b = 0xCB then decodeIdxCb y e r else decodeIn y.page (idxRows y) e b r

/-- R166 step 3: after an EDh byte. -/
def decodeEd (e : Ext) (bs : List Byte) : Decoded :=
  match bs with
  | [] => .error .truncated
  | b :: r =>
    if b = 0xCB then
      match r with
      | [] => .error .truncated
      | op :: r' => decodeIn .edcb edcbRows e op r'
    else decodeIn .ed edRows e b r

/-- R166: the instruction at the head of `bs` under a pending directive that adds `e`, and the bytes after it. -/
def decode (e : Ext) (bs : List Byte) : Decoded :=
  match bs with
  | [] => .error .truncated
  | b :: r =>
    if b = 0xCB then
      match r with
      | [] => .error .truncated
      | op :: r' => decodeIn .cb cbRows e op r'
    else if b = 0xED then decodeEd e r
    else if b = 0xDD then decodeIdx .ix e r
    else if b = 0xFD then decodeIdx .iy e r
    else decodeIn .base baseRows e b r

/-- R469: how many bytes a directive adds to a field. -/
def Ext.size : Ext → Nat
  | .zero => 0
  | .ib => 1
  | .iw => 2

/-- R166, steps 1 to 4: `k`, the bytes of an encoding up to and with its opcode byte. -/
def opcodeLength (e : Ext) (bs : List Byte) : Nat :=
  match bs with
  | [] => 0
  | [_] => 1
  | b :: c :: _ =>
    if b = 0xCB then 2
    else if b = 0xED then if c = 0xCB then 3 else 2
    else if b = 0xDD ∨ b = 0xFD then if c = 0xCB then 4 + e.size else 2
    else 1

/-- The bytes of an instruction, the first at the lowest address (R105, R142 to R152). -/
def encode : Instr → List Byte
  | .ldDdNn dd nn => [0x01 ||| at' dd.code 4] ++ nn.bytes
  | .incDd dd => [0x03 ||| at' dd.code 4]
  | .decDd dd => [0x0B ||| at' dd.code 4]
  | .incR r => [0x04 ||| at' r.code 3]
  | .decR r => [0x05 ||| at' r.code 3]
  | .ldRN r n => [0x06 ||| at' r.code 3] ++ [n]
  | .ldIndHlN n => [0x36] ++ [n]
  | .addHlDd dd => [0x09 ||| at' dd.code 4]
  | .djnzE8 e => [0x10] ++ [e]
  | .jrE8 e => [0x18] ++ [e]
  | .jrCcE8 cc e => [0x20 ||| at' cc.code 3] ++ [e]
  | .ldDirNnHl nn => [0x22] ++ nn.bytes
  | .ldHlDirNn nn => [0x2A] ++ nn.bytes
  | .ldDirNnA nn => [0x32] ++ nn.bytes
  | .ldADirNn nn => [0x3A] ++ nn.bytes
  | .ldRR r r' => [0x40 ||| at' r.code 3 ||| r'.code]
  | .ldRIndHl r => [0x46 ||| at' r.code 3]
  | .ldIndHlR r => [0x70 ||| r.code]
  | .addAR r => [0x80 ||| r.code]
  | .addAN n => [0xC6] ++ [n]
  | .adcAR r => [0x88 ||| r.code]
  | .adcAN n => [0xCE] ++ [n]
  | .subR r => [0x90 ||| r.code]
  | .subN n => [0xD6] ++ [n]
  | .sbcAR r => [0x98 ||| r.code]
  | .sbcAN n => [0xDE] ++ [n]
  | .andR r => [0xA0 ||| r.code]
  | .andN n => [0xE6] ++ [n]
  | .xorR r => [0xA8 ||| r.code]
  | .xorN n => [0xEE] ++ [n]
  | .orR r => [0xB0 ||| r.code]
  | .orN n => [0xF6] ++ [n]
  | .cpR r => [0xB8 ||| r.code]
  | .cpN n => [0xFE] ++ [n]
  | .retCc cc => [0xC0 ||| at' cc.code 3]
  | .popQq qq => [0xC1 ||| at' qq.qq 4]
  | .jpCcNn cc nn => [0xC2 ||| at' cc.code 3] ++ nn.bytes
  | .jpNn nn => [0xC3] ++ nn.bytes
  | .callCcNn cc nn => [0xC4 ||| at' cc.code 3] ++ nn.bytes
  | .pushQq qq => [0xC5 ||| at' qq.qq 4]
  | .rstP p => [0xC7 ||| at' (p.setWidth 8) 3]
  | .callNn nn => [0xCD] ++ nn.bytes
  | .outPortNA n => [0xD3] ++ [n]
  | .inAPortN n => [0xDB] ++ [n]
  | .rlcR r => [0xCB, 0x00 ||| r.code]
  | .rrcR r => [0xCB, 0x08 ||| r.code]
  | .rlR r => [0xCB, 0x10 ||| r.code]
  | .rrR r => [0xCB, 0x18 ||| r.code]
  | .slaR r => [0xCB, 0x20 ||| r.code]
  | .sraR r => [0xCB, 0x28 ||| r.code]
  | .srlR r => [0xCB, 0x38 ||| r.code]
  | .exRRAlt r => [0xCB, 0x30 ||| r.code]
  | .bitBR b r => [0xCB, 0x40 ||| at' (b.setWidth 8) 3 ||| r.code]
  | .bitBIndHl b => [0xCB, 0x46 ||| at' (b.setWidth 8) 3]
  | .resBR b r => [0xCB, 0x80 ||| at' (b.setWidth 8) 3 ||| r.code]
  | .resBIndHl b => [0xCB, 0x86 ||| at' (b.setWidth 8) 3]
  | .setBR b r => [0xCB, 0xC0 ||| at' (b.setWidth 8) 3 ||| r.code]
  | .setBIndHl b => [0xCB, 0xC6 ||| at' (b.setWidth 8) 3]
  | .addXyTt y tt => [y.byte, 0x09 ||| at' tt.code 4]
  | .ldIndPpXy pp y => [y.byte, 0x01 ||| at' pp.pp 4]
  | .ldXyIndPp y pp => [y.byte, 0x03 ||| at' pp.pp 4]
  | .ldXyPp y pp => [y.byte, 0x07 ||| at' pp.pp 4]
  | .ldPpXy pp y => [y.byte, 0x0B ||| at' pp.pp 4]
  | .ldPpIndUu pp uu => [0xDD, 0x0C ||| at' pp.pp 4 ||| uu.pp]
  | .ldIndPpUu pp uu => [0xFD, 0x0C ||| pp.pp ||| at' uu.pp 4]
  | .ldPpBc pp => [0xED, 0x02 ||| at' pp.pp 4]
  | .ldPpDe pp => [0xDD, 0x02 ||| at' pp.pp 4]
  | .ldPpHl pp => [0xFD, 0x02 ||| at' pp.pp 4]
  | .djnzE16 e => [0xDD, 0x10] ++ bytes16 e
  | .djnzE24 e => [0xFD, 0x10] ++ bytes24 e
  | .jrE16 e => [0xDD, 0x18] ++ bytes16 e
  | .jrE24 e => [0xFD, 0x18] ++ bytes24 e
  | .jrCcE16 cc e => [0xDD, 0x20 ||| at' cc.code 3] ++ bytes16 e
  | .jrCcE24 cc e => [0xFD, 0x20 ||| at' cc.code 3] ++ bytes24 e
  | .ldXyNn y nn => [y.byte, 0x21] ++ nn.bytes
  | .ldDirNnXy nn y => [y.byte, 0x22] ++ nn.bytes
  | .ldXyDirNn y nn => [y.byte, 0x2A] ++ nn.bytes
  | .incXy y => [y.byte, 0x23]
  | .decXy y => [y.byte, 0x2B]
  | .incHalf y h => [y.byte, 0x24 ||| at' h.code 3]
  | .decHalf y h => [y.byte, 0x25 ||| at' h.code 3]
  | .ldHalfN y h n => [y.byte, 0x26 ||| at' h.code 3] ++ [n]
  | .incIdxD y d => [y.byte, 0x34] ++ d.bytes
  | .decIdxD y d => [y.byte, 0x35] ++ d.bytes
  | .ldIdxDN y d n => [y.byte, 0x36] ++ d.bytes ++ [n]
  | .swapXy y => [y.byte, 0x3E]
  | .outwPortCNn nn => [0xFD, 0x79] ++ nn.bytes
  | .ldHalfS y h src => [y.byte, 0x60 ||| at' h.code 3 ||| src.code]
  | .ldRHalf r y h => [y.byte, 0x44 ||| at' r.code 3 ||| h.code]
  | .ldRIdxD r y d => [y.byte, 0x46 ||| at' r.code 3] ++ d.bytes
  | .ldIdxDR y d r => [y.byte, 0x70 ||| r.code] ++ d.bytes
  | .addAHalf y h => [y.byte, 0x84 ||| h.code]
  | .addAIdxD y d => [y.byte, 0x86] ++ d.bytes
  | .adcAHalf y h => [y.byte, 0x8C ||| h.code]
  | .adcAIdxD y d => [y.byte, 0x8E] ++ d.bytes
  | .subHalf y h => [y.byte, 0x94 ||| h.code]
  | .subIdxD y d => [y.byte, 0x96] ++ d.bytes
  | .sbcAHalf y h => [y.byte, 0x9C ||| h.code]
  | .sbcAIdxD y d => [y.byte, 0x9E] ++ d.bytes
  | .andHalf y h => [y.byte, 0xA4 ||| h.code]
  | .andIdxD y d => [y.byte, 0xA6] ++ d.bytes
  | .xorHalf y h => [y.byte, 0xAC ||| h.code]
  | .xorIdxD y d => [y.byte, 0xAE] ++ d.bytes
  | .orHalf y h => [y.byte, 0xB4 ||| h.code]
  | .orIdxD y d => [y.byte, 0xB6] ++ d.bytes
  | .cpHalf y h => [y.byte, 0xBC ||| h.code]
  | .cpIdxD y d => [y.byte, 0xBE] ++ d.bytes
  | .addwHlXy y => [y.byte, 0x87]
  | .addwHlIdxD y d => [y.byte, 0xC6] ++ d.bytes
  | .addwHlPp pp => [0xED, 0x84 ||| pp.pp]
  | .addwHlNn nn => [0xED, 0x86] ++ nn.bytes
  | .adcwHlXy y => [y.byte, 0x8F]
  | .adcwHlIdxD y d => [y.byte, 0xCE] ++ d.bytes
  | .adcwHlPp pp => [0xED, 0x8C ||| pp.pp]
  | .adcwHlNn nn => [0xED, 0x8E] ++ nn.bytes
  | .subwHlXy y => [y.byte, 0x97]
  | .subwHlIdxD y d => [y.byte, 0xD6] ++ d.bytes
  | .subwHlPp pp => [0xED, 0x94 ||| pp.pp]
  | .subwHlNn nn => [0xED, 0x96] ++ nn.bytes
  | .sbcwHlXy y => [y.byte, 0x9F]
  | .sbcwHlIdxD y d => [y.byte, 0xDE] ++ d.bytes
  | .sbcwHlPp pp => [0xED, 0x9C ||| pp.pp]
  | .sbcwHlNn nn => [0xED, 0x9E] ++ nn.bytes
  | .andwHlXy y => [y.byte, 0xA7]
  | .andwHlIdxD y d => [y.byte, 0xE6] ++ d.bytes
  | .andwHlPp pp => [0xED, 0xA4 ||| pp.pp]
  | .andwHlNn nn => [0xED, 0xA6] ++ nn.bytes
  | .xorwHlXy y => [y.byte, 0xAF]
  | .xorwHlIdxD y d => [y.byte, 0xEE] ++ d.bytes
  | .xorwHlPp pp => [0xED, 0xAC ||| pp.pp]
  | .xorwHlNn nn => [0xED, 0xAE] ++ nn.bytes
  | .orwHlXy y => [y.byte, 0xB7]
  | .orwHlIdxD y d => [y.byte, 0xF6] ++ d.bytes
  | .orwHlPp pp => [0xED, 0xB4 ||| pp.pp]
  | .orwHlNn nn => [0xED, 0xB6] ++ nn.bytes
  | .cpwHlXy y => [y.byte, 0xBF]
  | .cpwHlIdxD y d => [y.byte, 0xFE] ++ d.bytes
  | .cpwHlPp pp => [0xED, 0xBC ||| pp.pp]
  | .cpwHlNn nn => [0xED, 0xBE] ++ nn.bytes
  | .calrCcE16 cc e => [0xDD, 0xC4 ||| at' cc.code 3] ++ bytes16 e
  | .calrCcE24 cc e => [0xFD, 0xC4 ||| at' cc.code 3] ++ bytes24 e
  | .calrE16 e => [0xDD, 0xCD] ++ bytes16 e
  | .calrE24 e => [0xFD, 0xCD] ++ bytes24 e
  | .ldctlSrN n => [0xDD, 0xCA] ++ [n]
  | .ldctlXsrN n => [0xDD, 0xDA] ++ [n]
  | .ldctlYsrN n => [0xFD, 0xDA] ++ [n]
  | .outawDirNnHl nn => [0xFD, 0xD3] ++ nn.bytes
  | .inawHlDirNn nn => [0xFD, 0xDB] ++ nn.bytes
  | .popXy y => [y.byte, 0xE1]
  | .exIndSpXy y => [y.byte, 0xE3]
  | .pushXy y => [y.byte, 0xE5]
  | .jpIndXy y => [y.byte, 0xE9]
  | .ldSpXy y => [y.byte, 0xF9]
  | .diN n => [0xDD, 0xF3] ++ [n]
  | .eiN n => [0xDD, 0xFB] ++ [n]
  | .pushNn nn => [0xFD, 0xF5] ++ nn.bytes
  | .rlcIdxD y d => [y.byte, 0xCB] ++ d.bytes ++ [0x06]
  | .rrcIdxD y d => [y.byte, 0xCB] ++ d.bytes ++ [0x0E]
  | .rlIdxD y d => [y.byte, 0xCB] ++ d.bytes ++ [0x16]
  | .rrIdxD y d => [y.byte, 0xCB] ++ d.bytes ++ [0x1E]
  | .slaIdxD y d => [y.byte, 0xCB] ++ d.bytes ++ [0x26]
  | .sraIdxD y d => [y.byte, 0xCB] ++ d.bytes ++ [0x2E]
  | .srlIdxD y d => [y.byte, 0xCB] ++ d.bytes ++ [0x3E]
  | .bitBIdxD b y d => [y.byte, 0xCB] ++ d.bytes ++ [0x46 ||| at' (b.setWidth 8) 3]
  | .resBIdxD b y d => [y.byte, 0xCB] ++ d.bytes ++ [0x86 ||| at' (b.setWidth 8) 3]
  | .setBIdxD b y d => [y.byte, 0xCB] ++ d.bytes ++ [0xC6 ||| at' (b.setWidth 8) 3]
  | .rlcwIdxD y d => [y.byte, 0xCB] ++ d.bytes ++ [0x02]
  | .rlcwWop x => [0xED, 0xCB, 0x00 ||| x.code]
  | .rrcwIdxD y d => [y.byte, 0xCB] ++ d.bytes ++ [0x0A]
  | .rrcwWop x => [0xED, 0xCB, 0x08 ||| x.code]
  | .rlwIdxD y d => [y.byte, 0xCB] ++ d.bytes ++ [0x12]
  | .rlwWop x => [0xED, 0xCB, 0x10 ||| x.code]
  | .rrwIdxD y d => [y.byte, 0xCB] ++ d.bytes ++ [0x1A]
  | .rrwWop x => [0xED, 0xCB, 0x18 ||| x.code]
  | .slawIdxD y d => [y.byte, 0xCB] ++ d.bytes ++ [0x22]
  | .slawWop x => [0xED, 0xCB, 0x20 ||| x.code]
  | .srawIdxD y d => [y.byte, 0xCB] ++ d.bytes ++ [0x2A]
  | .srawWop x => [0xED, 0xCB, 0x28 ||| x.code]
  | .srlwIdxD y d => [y.byte, 0xCB] ++ d.bytes ++ [0x3A]
  | .srlwWop x => [0xED, 0xCB, 0x38 ||| x.code]
  | .ldPpSpD pp d => [0xDD, 0xCB] ++ d.bytes ++ [0x01 ||| at' pp.pp 4]
  | .ldXySpD y d => [y.byte, 0xCB] ++ d.bytes ++ [0x21]
  | .ldPpIdxD pp y d => [y.byte, 0xCB] ++ d.bytes ++ [0x03 ||| at' pp.pp 4]
  | .ldYxIdxD y d => [y.byte, 0xCB] ++ d.bytes ++ [0x23]
  | .ldSpDPp d pp => [0xDD, 0xCB] ++ d.bytes ++ [0x09 ||| at' pp.pp 4]
  | .ldSpDXy d y => [y.byte, 0xCB] ++ d.bytes ++ [0x29]
  | .ldIdxDPp y d pp => [y.byte, 0xCB] ++ d.bytes ++ [0x0B ||| at' pp.pp 4]
  | .ldIdxDYx y d => [y.byte, 0xCB] ++ d.bytes ++ [0x2B]
  | .multwHlIdxD y d => [y.byte, 0xCB] ++ d.bytes ++ [0x92]
  | .multuwHlIdxD y d => [y.byte, 0xCB] ++ d.bytes ++ [0x9A]
  | .divuwHlIdxD y d => [y.byte, 0xCB] ++ d.bytes ++ [0xBA]
  | .in0RPortN r n => [0xED, 0x00 ||| at' r.code 3] ++ [n]
  | .in0PortN n => [0xED, 0x30] ++ [n]
  | .out0PortNR n r => [0xED, 0x01 ||| at' r.code 3] ++ [n]
  | .tstR r => [0xED, 0x04 ||| at' r.code 3]
  | .tstN n => [0xED, 0x64] ++ [n]
  | .ldIndPpNn pp nn => [0xED, 0x06 ||| at' pp.pp 4] ++ nn.bytes
  | .exAR r => [0xED, 0x07 ||| at' r.code 3]
  | .swapPp pp => [0xED, 0x0E ||| at' pp.pp 4]
  | .inRPortC r => [0xED, 0x40 ||| at' r.code 3]
  | .outPortCR r => [0xED, 0x41 ||| at' r.code 3]
  | .outPortCN n => [0xED, 0x71] ++ [n]
  | .sbcHlDd dd => [0xED, 0x42 ||| at' dd.code 4]
  | .adcHlDd dd => [0xED, 0x4A ||| at' dd.code 4]
  | .ldDirNnDd nn dd => [0xED, 0x43 ||| at' dd.code 4] ++ nn.bytes
  | .ldDdDirNn dd nn => [0xED, 0x4B ||| at' dd.code 4] ++ nn.bytes
  | .mltDd dd => [0xED, 0x4C ||| at' dd.code 4]
  | .tstioN n => [0xED, 0x74] ++ [n]
  | .addSpNn nn => [0xED, 0x82] ++ nn.bytes
  | .subSpNn nn => [0xED, 0x92] ++ nn.bytes
  | .addHlDirNn nn => [0xED, 0xC6] ++ nn.bytes
  | .subHlDirNn nn => [0xED, 0xD6] ++ nn.bytes
  | .calrCcE8 cc e => [0xED, 0xC4 ||| at' cc.code 3] ++ [e]
  | .calrE8 e => [0xED, 0xCD] ++ [e]
  | .ldctlDsrN n => [0xED, 0xDA] ++ [n]
  | .outaDirNnA nn => [0xED, 0xD3] ++ nn.bytes
  | .inaADirNn nn => [0xED, 0xDB] ++ nn.bytes
  | .multwHlWop x => [0xED, 0xCB, 0x90 ||| x.code]
  | .multwHlNn nn => [0xED, 0xCB, 0x97] ++ nn.bytes
  | .multuwHlWop x => [0xED, 0xCB, 0x98 ||| x.code]
  | .multuwHlNn nn => [0xED, 0xCB, 0x9F] ++ nn.bytes
  | .divuwHlWop x => [0xED, 0xCB, 0xB8 ||| x.code]
  | .divuwHlNn nn => [0xED, 0xCB, 0xBF] ++ nn.bytes
  | .nop => [0x00]
  | .ldIndBcA => [0x02]
  | .ldIndDeA => [0x12]
  | .ldAIndBc => [0x0A]
  | .ldAIndDe => [0x1A]
  | .incIndHl => [0x34]
  | .decIndHl => [0x35]
  | .rlca => [0x07]
  | .rrca => [0x0F]
  | .rla => [0x17]
  | .rra => [0x1F]
  | .exAfAfAlt => [0x08]
  | .daa => [0x27]
  | .cpl => [0x2F]
  | .scf => [0x37]
  | .ccf => [0x3F]
  | .halt => [0x76]
  | .addAIndHl => [0x86]
  | .adcAIndHl => [0x8E]
  | .subIndHl => [0x96]
  | .sbcAIndHl => [0x9E]
  | .andIndHl => [0xA6]
  | .xorIndHl => [0xAE]
  | .orIndHl => [0xB6]
  | .cpIndHl => [0xBE]
  | .popAf => [0xF1]
  | .pushAf => [0xF5]
  | .ret => [0xC9]
  | .exx => [0xD9]
  | .exIndSpHl => [0xE3]
  | .jpIndHl => [0xE9]
  | .exDeHl => [0xEB]
  | .di => [0xF3]
  | .ei => [0xFB]
  | .ldSpHl => [0xF9]
  | .rlcIndHl => [0xCB, 0x06]
  | .rrcIndHl => [0xCB, 0x0E]
  | .rlIndHl => [0xCB, 0x16]
  | .rrIndHl => [0xCB, 0x1E]
  | .slaIndHl => [0xCB, 0x26]
  | .sraIndHl => [0xCB, 0x2E]
  | .srlIndHl => [0xCB, 0x3E]
  | .ldIxIy => [0xDD, 0x27]
  | .ldIyIx => [0xFD, 0x27]
  | .cplw => [0xDD, 0x2F]
  | .inwBcPortC => [0xDD, 0x40]
  | .inwDePortC => [0xDD, 0x50]
  | .inwHlPortC => [0xDD, 0x78]
  | .outwPortCBc => [0xDD, 0x41]
  | .outwPortCDe => [0xDD, 0x51]
  | .outwPortCHl => [0xDD, 0x79]
  | .ldIHl => [0xDD, 0x47]
  | .ldHlI => [0xDD, 0x57]
  | .ddirW => [0xDD, 0xC0]
  | .ddirIbW => [0xDD, 0xC1]
  | .ddirIwW => [0xDD, 0xC2]
  | .ddirIb => [0xDD, 0xC3]
  | .ddirLw => [0xFD, 0xC0]
  | .ddirIbLw => [0xFD, 0xC1]
  | .ddirIwLw => [0xFD, 0xC2]
  | .ddirIw => [0xFD, 0xC3]
  | .ldctlSrA => [0xDD, 0xC8]
  | .mtest => [0xDD, 0xCF]
  | .ldctlAXsr => [0xDD, 0xD0]
  | .ldctlAYsr => [0xFD, 0xD0]
  | .ldctlXsrA => [0xDD, 0xD8]
  | .ldctlYsrA => [0xFD, 0xD8]
  | .exxx => [0xDD, 0xD9]
  | .exxy => [0xFD, 0xD9]
  | .setcLw => [0xDD, 0xF7]
  | .rescLw => [0xDD, 0xFF]
  | .setcXm => [0xFD, 0xF7]
  | .exBcIx => [0xED, 0x03]
  | .exBcIy => [0xED, 0x0B]
  | .exDeIx => [0xED, 0x13]
  | .exDeIy => [0xED, 0x1B]
  | .exHlIx => [0xED, 0x33]
  | .exHlIy => [0xED, 0x3B]
  | .exIxIy => [0xED, 0x2B]
  | .tstIndHl => [0xED, 0x34]
  | .exBcDe => [0xED, 0x05]
  | .exBcHl => [0xED, 0x0D]
  | .exAIndHl => [0xED, 0x37]
  | .neg => [0xED, 0x44]
  | .negw => [0xED, 0x54]
  | .retn => [0xED, 0x45]
  | .reti => [0xED, 0x4D]
  | .im0 => [0xED, 0x46]
  | .im1 => [0xED, 0x56]
  | .im2 => [0xED, 0x5E]
  | .im3 => [0xED, 0x4E]
  | .ldIA => [0xED, 0x47]
  | .ldRA => [0xED, 0x4F]
  | .ldAI => [0xED, 0x57]
  | .ldAR => [0xED, 0x5F]
  | .exts => [0xED, 0x65]
  | .extsw => [0xED, 0x75]
  | .rrd => [0xED, 0x67]
  | .rld => [0xED, 0x6F]
  | .slp => [0xED, 0x76]
  | .otim => [0xED, 0x83]
  | .otdm => [0xED, 0x8B]
  | .otimr => [0xED, 0x93]
  | .otdmr => [0xED, 0x9B]
  | .ldi => [0xED, 0xA0]
  | .cpi => [0xED, 0xA1]
  | .ini => [0xED, 0xA2]
  | .outi => [0xED, 0xA3]
  | .ldd => [0xED, 0xA8]
  | .cpd => [0xED, 0xA9]
  | .ind => [0xED, 0xAA]
  | .outd => [0xED, 0xAB]
  | .ldir => [0xED, 0xB0]
  | .cpir => [0xED, 0xB1]
  | .inir => [0xED, 0xB2]
  | .otir => [0xED, 0xB3]
  | .lddr => [0xED, 0xB8]
  | .cpdr => [0xED, 0xB9]
  | .indr => [0xED, 0xBA]
  | .otdr => [0xED, 0xBB]
  | .ldctlHlSr => [0xED, 0xC0]
  | .ldctlSrHl => [0xED, 0xC8]
  | .popSr => [0xED, 0xC1]
  | .pushSr => [0xED, 0xC5]
  | .btest => [0xED, 0xCF]
  | .ldctlADsr => [0xED, 0xD0]
  | .ldctlDsrA => [0xED, 0xD8]
  | .exall => [0xED, 0xD9]
  | .ldiw => [0xED, 0xE0]
  | .lddw => [0xED, 0xE8]
  | .ldirw => [0xED, 0xF0]
  | .lddrw => [0xED, 0xF8]
  | .iniw => [0xED, 0xE2]
  | .indw => [0xED, 0xEA]
  | .inirw => [0xED, 0xF2]
  | .indrw => [0xED, 0xFA]
  | .outiw => [0xED, 0xE3]
  | .outdw => [0xED, 0xEB]
  | .otirw => [0xED, 0xF3]
  | .otdrw => [0xED, 0xFB]
  | .setcLck => [0xED, 0xF7]
  | .rescLck => [0xED, 0xFF]
  | .exBcBcAlt => [0xED, 0xCB, 0x30]
  | .exDeDeAlt => [0xED, 0xCB, 0x31]
  | .exHlHlAlt => [0xED, 0xCB, 0x33]
  | .exIxIxAlt => [0xED, 0xCB, 0x34]
  | .exIyIyAlt => [0xED, 0xCB, 0x35]

/-! The host's view of a table row (log 19). -/

/-- The `n` low bytes of `w`, the most significant first. -/
def bytesMsbFirst : Nat → Nat → List Byte
  | 0, _ => []
  | n + 1, w => BitVec.ofNat 8 (w >>> (8 * n)) :: bytesMsbFirst n w

/-- The `n` low bytes of `w`, the least significant first. -/
def bytesLsbFirst : Nat → Nat → List Byte
  | 0, _ => []
  | n + 1, w => BitVec.ofNat 8 w :: bytesLsbFirst n (w >>> 8)

/-- The longest instruction has seven bytes (R145). -/
def maxLength : Nat := 7

/-- `bs` and the zero bytes above it, and whether they hold an instruction of at least `bs.length` bytes. -/
def padded (bs : List Byte) : List Byte := bs ++ List.replicate (maxLength - bs.length) 0

def fillsRow (bs : List Byte) : Bool :=
  match decode .zero (padded bs) with
  | .ok (_, r) => decide (bs.length + r.length ≤ (padded bs).length)
  | .error _ => false

/-- The bytes of a table row's number in the order the hardware stores them: the row's `fixed` and `fields` count the first
byte as the most significant, so that reading comes first; where it holds no instruction of the row's length, the first
byte is the least significant (log 19). -/
def tableBytes (nbits w : Nat) : List Byte :=
  let n := (nbits + 7) / 8
  if fillsRow (bytesMsbFirst n w) then padded (bytesMsbFirst n w)
  else if fillsRow (bytesLsbFirst n w) then padded (bytesLsbFirst n w)
  else padded (bytesMsbFirst n w)

/-- The instruction the decoder reads from a table row's number. -/
def decodeTableWord (nbits w : Nat) : Option Instr :=
  match decode .zero (tableBytes nbits w) with
  | .ok (i, _) => some i
  | .error _ => none

end Sys2Proof
end

