-- ==== Sys2Proof/Machine/Bits.lean ====
section
/-! DEFINITION. Parts of a register and how a part is replaced (R11): the bytes and the extension word of a long word. -/

namespace Sys2Proof.Machine

/-- R11: `ppl = pp[7:0]`. -/
def lo8 (v : Long) : Byte := v.extractLsb' 0 8

/-- R11: `pph = pp[15:8]`. -/
def hi8 (v : Long) : Byte := v.extractLsb' 8 8

/-- R11: `pp[15:0]`. -/
def lo16 (v : Long) : Word := v.extractLsb' 0 16

/-- R11: `ppz = pp[31:16]`. -/
def ext16 (v : Long) : Word := v.extractLsb' 16 16

/-- R31: a write of the low byte changes bits 7:0 and nothing else. -/
def withLo8 (v : Long) (b : Byte) : Long := v.extractLsb' 8 24 ++ b

/-- R31: a write of the high byte changes bits 15:8 and nothing else. -/
def withHi8 (v : Long) (b : Byte) : Long := v.extractLsb' 16 16 ++ b ++ v.extractLsb' 0 8

/-- R15, D19: a 16-bit write leaves bits 31:16 unchanged. -/
def withLo16 (v : Long) (w : Word) : Long := v.extractLsb' 16 16 ++ w

/-- A write of the extension word changes bits 31:16 and nothing else. -/
def withExt16 (v : Long) (w : Word) : Long := w ++ v.extractLsb' 0 16

/-- R14: zero-extension to 32 bits. -/
def zext32 {n : Nat} (v : BitVec n) : Long := v.setWidth 32

/-- R14: sign-extension to 32 bits. -/
def sext32 {n : Nat} (v : BitVec n) : Long := v.signExtend 32

/-- The bit of a Boolean. -/
def bit1 (b : Bool) : BitVec 1 := BitVec.ofBool b

/-- R14: `parity(v)`: the number of 1 bits is even. -/
def evenParity (v : Byte) : Bool :=
  !(v.getLsbD 0 ^^ v.getLsbD 1 ^^ v.getLsbD 2 ^^ v.getLsbD 3 ^^ v.getLsbD 4 ^^ v.getLsbD 5 ^^ v.getLsbD 6 ^^ v.getLsbD 7)

/-- The low byte of a word. -/
def wordLo (w : Word) : Byte := w.extractLsb' 0 8

/-- The high byte of a word. -/
def wordHi (w : Word) : Byte := w.extractLsb' 8 8

/-- R15: `wr_W`: the register after a W-bit write of `v`, W being 32 when `long` holds, else 16. -/
def wrW (long : Bool) (old v : Long) : Long := if long then v else withLo16 old (lo16 v)

/-- A W-bit datum as 32 bits, zero-extended when W is 16. -/
def datum (long : Bool) (v : Long) : Long := if long then v else zext32 (lo16 v)

/-- R15: `addr_add(a, k)`: modulo 2^32 in extended mode; in native mode bits 15:0 wrap and bits 31:16 stay (D16). -/
def addrAdd (xm : Bool) (a k : Long) : Long := if xm then a + k else withLo16 a (lo16 a + lo16 k)

/-- R36, R37: what PC and SP hold after a write of `v`: in native mode bits 31:16 are 0. -/
def ringed (xm : Bool) (v : Long) : Long := if xm then v else zext32 (lo16 v)

/-- R15: the bytes of a W-bit or AW-bit datum. -/
def bytesOf (long : Bool) : Long := if long then 4 else 2

end Sys2Proof.Machine
end

