-- ==== Sys2Proof/Config.lean ====
section
/-! DEFINITION. What the spec leaves to the implementation or the platform (R9): the named parameters, as plain data that
`State` carries and no step writes (log 1), and the free values, opaque constants with no value in the model (log 11). -/

namespace Sys2Proof

/-- What lies at an address of the memory space: one row of parameter `MEM_MAP` (R102, R115, D5). -/
inductive RegionKind where
  /-- reads give the stored byte, writes store -/
  | ram
  /-- reads give the stored byte, writes are dropped -/
  | rom
  /-- nothing is there: reads give `v`, writes are dropped -/
  | empty (v : Byte)
  /-- a device: reads give a free value, writes are recorded as outputs -/
  | device
  deriving DecidableEq, Repr

/-- One region of `MEM_MAP`: the addresses `base` to `last`, both included. -/
structure Region where
  base : Long
  last : Long
  kind : RegionKind
  deriving DecidableEq, Repr

/-- Parameter `TRAP_ENTRY` (R722, D8). -/
inductive TrapEntry where
  /-- the model stops with a fault -/
  | fault
  /-- the real part's sequence as R722 gives it -/
  | real
  deriving DecidableEq, Repr

/-- Parameter `ODD_BLOCK_WORD` (R107, D4). -/
inductive OddBlockWord where
  | refuse
  | fault
  | bytewise
  deriving DecidableEq, Repr

/-- Parameter `DIV_CORNER` (R513, D12). -/
inductive DivCorner where
  | draw
  | unchanged
  deriving DecidableEq, Repr

/-- Parameter `MULT_C_RULE` (R511, R512, D32): `product` is the rule's default. -/
inductive MultCRule where
  | product
  | draw
  deriving DecidableEq, Repr

/-- Parameter `XM_ADD_FLAGS` (R482, D22). -/
inductive XmAddFlags where
  | wide
  | narrow
  | draw
  deriving DecidableEq, Repr

/-- The compare function of /UMCS, which `90_conflicts.md` C17 says a model of the pins takes as a parameter. -/
inductive UmcsCompare where
  /-- R776 as printed: one selected address bit at 1 is enough -/
  | anySelected
  /-- the contiguous area of the figure: every selected address bit is 1 -/
  | allSelected
  deriving DecidableEq, Repr

/-- The parameters of R9 (`IO_DEVICES` and `INTACK_DATA` are inputs of `State`, log 13 and 14). -/
structure Params where
  memMap       : List Region
  resetPc      : Word
  fetchWindow  : Nat
  trapEntry    : TrapEntry
  oddBlockWord : OddBlockWord
  divCorner    : DivCorner
  multCRule    : MultCRule
  xmAddFlags   : XmAddFlags
  umcsCompare  : UmcsCompare
  deriving DecidableEq, Repr

/-- The parameter values `State.reset` carries: R9's defaults, but for `TRAP_ENTRY` and `ODD_BLOCK_WORD`, where the
choice with an effect is taken (DESIGN CHOICE, unsafe: log 1, 2, 3, 4). -/
def Params.initial : Params where
  memMap       := []
  resetPc      := 0
  fetchWindow  := 0
  trapEntry    := .real
  oddBlockWord := .bytewise
  divCorner    := .draw
  multCRule    := .product
  xmAddFlags   := .wide
  umcsCompare  := .anySelected

namespace Config

/-- `draw_1()` for each bit of F a step leaves open: bit i of the value at the step's clock is the draw for bit i of F
(R13, R48, U1; log 11). -/
opaque drawFlags : Nat → Byte

/-- `draw_8()` of LD A,R at a step (R217; log 11). -/
opaque drawR : Nat → Byte

/-- `draw_32()` and `draw_1()` of DIVUW's corner at a step (R513; log 11). -/
opaque drawQuotient : Nat → Long × Bool

/-- What a platform device answers to the external read at a step and port address, as a word; a byte read takes the low
byte (R108, `IO_DEVICES`; log 13). -/
opaque portValue : Nat → Long → Word

/-- What a device mapped into memory answers to a data read at a step and address (R113, `MEM_MAP`; log 4). -/
opaque deviceByte : Nat → Long → Byte

/-- What a device mapped into memory answers to an instruction fetch at a step and address (R113, `MEM_MAP`; log 4). -/
opaque deviceFetch : Nat → Long → Byte

/-- What a read of an unnamed internal I/O address answers at a step (U9; log 28). -/
opaque unnamedIo : Nat → Byte → Byte

/-- The flag of TRPBK that a trap sets: the spec names no bit (R63, R722; log 17). -/
opaque trapFlag : Fin 8

end Config
end Sys2Proof
end

