-- ==== Sys2Proof/Machine/State.lean ====
section
/-! DEFINITION. The state of the machine as plain data (R30, R51, R19): every register of the spec under its own name, memory
as sparse cells, the environment's inputs and outputs; the reasons a step can stop; and the state after reset (R64). -/

namespace Sys2Proof.Machine

/-- Four like things, one per bank (R31, R32, R34). -/
structure Quad (α : Type) where
  b0 : α
  b1 : α
  b2 : α
  b3 : α
  deriving DecidableEq, Repr

/-- The primary and the alternate of a bank (R31). -/
structure Duo (α : Type) where
  pri : α
  alt : α
  deriving DecidableEq, Repr

/-- R31: one set of the general registers, each of 32 bits. -/
structure GpSet where
  bc : Long
  de : Long
  hl : Long
  deriving DecidableEq, Repr

/-- R32: one accumulator with its flags. -/
structure AfSet where
  a : Byte
  f : Byte
  deriving DecidableEq, Repr

/-- R52: the 26 registers of the internal I/O space, at addresses 00h to 19h in this order. -/
structure IntIo where
  lmcs0  : Byte
  lmcs1  : Byte
  umcs0  : Byte
  umcs1  : Byte
  mmcs0  : Byte
  mmcs1  : Byte
  mmcs2  : Byte
  mmcs3  : Byte
  lmwr   : Byte
  umwr   : Byte
  mmwr0  : Byte
  mmwr1  : Byte
  mmwr2  : Byte
  mmwr3  : Byte
  iowr   : Byte
  rfwr   : Byte
  msmer  : Byte
  iocr0  : Byte
  iocr1  : Byte
  rfshr0 : Byte
  rfshr1 : Byte
  rfshr2 : Byte
  smcr   : Byte
  ier    : Byte
  avbr   : Byte
  trpbk  : Byte
  deriving DecidableEq, Repr

/-- R51 (b), R460: a pending decoder directive: the data format it forces, if it forces one, and the bytes it adds. -/
structure Ddir where
  lw  : Option Bool
  ext : Ext
  deriving DecidableEq, Repr

/-- R19 (c), R730: what the environment presents at one instruction boundary. `nmi` is a falling edge of /NMI since the last
boundary, `int0` to `int3` the asserted levels; `ackInstr` and `ackVector` are parameter `INTACK_DATA` (log 14). -/
structure Inputs where
  reset     : Bool
  nmi       : Bool
  int0      : Bool
  int1      : Bool
  int2      : Bool
  int3      : Bool
  busReq    : Bool
  ackInstr  : List Byte
  ackVector : Word
  deriving DecidableEq, Repr

/-- An environment that asks for nothing. -/
def Inputs.quiet : Inputs := ⟨false, false, false, false, false, false, false, [], 0⟩

/-- R19 (d), R122: one access the platform sees, in program order. -/
inductive BusEvent where
  /-- an external port read and what the device answered (a byte read uses the low byte) -/
  | portRead (wide : Bool) (addr : Long) (data : Word)
  /-- an external port write (a byte write has the byte in the low half) -/
  | portWrite (wide : Bool) (addr : Long) (data : Word)
  /-- a byte stored to a device mapped into memory -/
  | deviceWrite (addr : Long) (data : Byte)
  deriving DecidableEq, Repr

/-- R100: memory as address and byte pairs in one canonical form (`Memory.wf`): addresses strictly rising, no byte equal to
what an unlisted address reads as. -/
abbrev Memory := List Host.Cell

/-- The state of one Z380 with its environment. -/
structure State where
  /-- R31: BC, DE, HL of each bank and set -/
  gp : Quad (Duo GpSet)
  /-- R32: A and F of each bank and set -/
  af : Quad (Duo AfSet)
  /-- R34: IX and IX' of each bank -/
  ix : Quad (Duo Long)
  /-- R34: IY and IY' of each bank -/
  iy : Quad (Duo Long)
  /-- R36 -/
  pc : Long
  /-- R37 -/
  sp : Long
  /-- R38: I with its extension Iz; the Z80's I is bits 15:8 -/
  ireg : Long
  /-- R39 -/
  r : Byte
  /-- R40: the select register -/
  sr : Long
  /-- R51 (a) -/
  ief2 : Bool
  /-- R51 (b): the pending decoder directive -/
  ddir : Option Ddir
  /-- R51 (c) -/
  halted : Bool
  /-- R51 (c) -/
  standby : Bool
  /-- R51 (d), R730: the latch of /NMI's falling edge -/
  nmiPending : Bool
  /-- R51 (e) -/
  eiShadow : Bool
  /-- R52: the internal I/O space -/
  io : IntIo
  /-- R100 -/
  mem : Memory
  /-- R19 (c): what the environment presents at the coming boundaries; an empty list is quiet for ever (log 14) -/
  inputs : List Inputs
  /-- R108: the answers to the coming external reads; past their end an answer is free (log 13) -/
  portIn : List Word
  /-- R19 (d): the outputs so far, newest first (log 13) -/
  busLog : List BusEvent
  /-- the model's own: counts steps, so that a free value is fresh at each (log 12) -/
  clock : Nat
  /-- R120: the bytes written inside the fetch window, which may not be executed (log 18) -/
  stale : List Nat
  /-- the model's own, for R120: the addresses of the bytes this step has written, newest first (log 18) -/
  written : List Nat
  /-- R9: the parameters (log 1) -/
  params : Params
  deriving DecidableEq, Repr

/-- Why a step stops with a fault. -/
inductive Fault where
  /-- An unassigned encoding at `here` under `TRAP_ENTRY` = fault (R722): raised by the fetch; safe. -/
  | illegalInstruction (here : Long)
  /-- A word block transfer at an odd address under `ODD_BLOCK_WORD` = fault (R107, D4): raised by LDIW and its kin; safe. -/
  | oddBlockWord
  deriving DecidableEq, Repr

/-- Why the model gives a step no meaning. -/
inductive Refusal where
  /-- An instruction without a meaning yet: raised by `exec`; safe. -/
  | notModelled (mnemonic : String)
  /-- A word block transfer at an odd address under `ODD_BLOCK_WORD` = refuse (R107, D4): raised by LDIW and its kin; safe. -/
  | oddBlockWord
  /-- A mode 0 acknowledge that supplies something other than RST p or CALL nn (R740, D21): raised by the interrupt entry;
  safe. -/
  | intackInstruction
  /-- Execution of a byte that was written inside the fetch window, which R120 says a model must refuse (R802, R803, D7):
  raised by the fetch; safe. -/
  | staleFetch
  deriving DecidableEq, Repr

/-- The type of a meaning's answer. -/
abbrev Exec := Host.Outcome State Fault Refusal

/-- The same thing in all four banks. -/
def Quad.same {α : Type} (v : α) : Quad α := ⟨v, v, v, v⟩

/-- The same thing in both sets. -/
def Duo.same {α : Type} (v : α) : Duo α := ⟨v, v⟩

/-- R64: the internal I/O space after reset: MSMER = C0h, IER = 01h, LMCS0.ERF = 0 and SMCR.STBY = 0 as the spec has them; the
other fields, which it leaves unspecified, zero (DESIGN CHOICE, unsafe: log 9). -/
def IntIo.reset : IntIo where
  lmcs0 := 0
  lmcs1 := 0
  umcs0 := 0
  umcs1 := 0
  mmcs0 := 0
  mmcs1 := 0
  mmcs2 := 0
  mmcs3 := 0
  lmwr := 0
  umwr := 0
  mmwr0 := 0
  mmwr1 := 0
  mmwr2 := 0
  mmwr3 := 0
  iowr := 0
  rfwr := 0
  msmer := 0xC0
  iocr0 := 0
  iocr1 := 0
  rfshr0 := 0
  rfshr1 := 0
  rfshr2 := 0
  smcr := 0
  ier := 0x01
  avbr := 0
  trpbk := 0

/-- R64, R790: the machine right after reset. The registers the spec leaves unspecified are zero (DESIGN CHOICE for the
general and index registers and SP: log 6, 7; PRESUMED, the Z80's, for I and R: log 8); memory lists nothing (log 5). -/
def State.reset : State where
  gp := Quad.same (Duo.same ⟨0, 0, 0⟩)
  af := Quad.same (Duo.same ⟨0, 0⟩)
  ix := Quad.same (Duo.same 0)
  iy := Quad.same (Duo.same 0)
  pc := Params.initial.resetPc.setWidth 32
  sp := 0
  ireg := 0
  r := 0
  sr := 0
  ief2 := false
  ddir := none
  halted := false
  standby := false
  nmiPending := false
  eiShadow := false
  io := IntIo.reset
  mem := []
  inputs := []
  portIn := []
  busLog := []
  clock := 0
  stale := []
  written := []
  params := Params.initial

end Sys2Proof.Machine
end

