-- ==== Sys2Proof/Machine/Memory.lean ====
section
/-! DEFINITION. Memory as sparse cells: reading and writing one byte by its address, and the canonical form. -/

namespace Sys2Proof.Machine

/-- What a byte that nothing has written reads as: the spec gives no contents (DESIGN CHOICE, unsafe: log 5). -/
def Memory.unlisted : Byte := 0

/-- R100: the stored byte at an address. -/
def Memory.read : Memory → Nat → Byte
  | [], _ => Memory.unlisted
  | c :: m, a => if c.1 = a then c.2 else Memory.read m a

/-- The cells without an address. -/
def Memory.erase : Memory → Nat → Memory
  | [], _ => []
  | c :: m, a => if c.1 = a then Memory.erase m a else c :: Memory.erase m a

/-- The cells with one more, before the first of a greater address. -/
def Memory.insert : Memory → Nat → Byte → Memory
  | [], a, v => [(a, v)]
  | c :: m, a, v => if a < c.1 then (a, v) :: c :: m else c :: Memory.insert m a v

/-- R100: the memory with byte `v` stored at `a`, in canonical form: writing what an unlisted address reads as removes the
entry. -/
def Memory.write (m : Memory) (a : Nat) (v : Byte) : Memory :=
  if v = Memory.unlisted then Memory.erase m a else Memory.insert (Memory.erase m a) a v

/-- The addresses rise strictly. -/
def Memory.rising : Memory → Bool
  | [] => true
  | c :: m => m.all (fun d => decide (c.1 < d.1)) && Memory.rising m

/-- The canonical form: addresses strictly rising and below 2^32, no byte equal to what an unlisted address reads as. -/
def Memory.wf (m : Memory) : Bool :=
  Memory.rising m && m.all (fun c => decide (c.1 < 2 ^ 32) && c.2 != Memory.unlisted)

end Sys2Proof.Machine
end

