-- ==== Sys2Proof/Machine/Ops.lean ====
section
/-! DEFINITION. The named operations over registers, memory, stack, ports and control bits that the meanings share, each one
record update; taking an exception and returning from one. -/

namespace Sys2Proof.Machine

/-- The item of bank `k`. -/
def Quad.get {α : Type} (q : Quad α) (k : BitVec 2) : α :=
  if k = 0 then q.b0 else if k = 1 then q.b1 else if k = 2 then q.b2 else q.b3

/-- The banks with the item of bank `k` replaced. -/
def Quad.put {α : Type} (q : Quad α) (k : BitVec 2) (v : α) : Quad α where
  b0 := if k = 0 then v else q.b0
  b1 := if k = 1 then v else q.b1
  b2 := if k = 2 then v else q.b2
  b3 := if k = 3 then v else q.b3

/-- The item of a set: the alternate one when `alt` holds. -/
def Duo.get {α : Type} (d : Duo α) (alt : Bool) : α := if alt then d.alt else d.pri

/-- The two sets with one item replaced. -/
def Duo.put {α : Type} (d : Duo α) (alt : Bool) (v : α) : Duo α where
  pri := if alt then d.pri else v
  alt := if alt then v else d.alt

/-- The item of bank `k` and a set. -/
def Quad.getIn {α : Type} (q : Quad (Duo α)) (k : BitVec 2) (alt : Bool) : α := (q.get k).get alt

/-- The banks with one item of bank `k` replaced. -/
def Quad.putIn {α : Type} (q : Quad (Duo α)) (k : BitVec 2) (alt : Bool) (v : α) : Quad (Duo α) :=
  q.put k ((q.get k).put alt v)

/-- The register of a set that a pair code names (R252). -/
def GpSet.get (g : GpSet) (p : Pair) : Long :=
  match p with
  | .bc => g.bc
  | .de => g.de
  | .hl => g.hl

/-- The set with one register replaced. -/
def GpSet.put (g : GpSet) (p : Pair) (v : Long) : GpSet where
  bc := if p = .bc then v else g.bc
  de := if p = .de then v else g.de
  hl := if p = .hl then v else g.hl

/-! ## The select register -/

/-- R40: MAINBANK, `SR[10:9]`. -/
def State.mainBank (s : State) : BitVec 2 := s.sr.extractLsb' 9 2

/-- R40: ALT, `SR[8]`. -/
def State.alt (s : State) : Bool := s.sr.getLsbD 8

/-- R40: AFP, `SR[0]`. -/
def State.afp (s : State) : Bool := s.sr.getLsbD 0

/-- R40: IXBANK, `SR[18:17]`. -/
def State.ixBank (s : State) : BitVec 2 := s.sr.extractLsb' 17 2

/-- R40: IXP, `SR[16]`. -/
def State.ixp (s : State) : Bool := s.sr.getLsbD 16

/-- R40: IYBANK, `SR[26:25]`. -/
def State.iyBank (s : State) : BitVec 2 := s.sr.extractLsb' 25 2

/-- R40: IYP, `SR[24]`. -/
def State.iyp (s : State) : Bool := s.sr.getLsbD 24

/-- R41: XM, `SR[7]`. -/
def State.xm (s : State) : Bool := s.sr.getLsbD 7

/-- R42: LW, `SR[6]`. -/
def State.lw (s : State) : Bool := s.sr.getLsbD 6

/-- R43: IEF1, `SR[5]`. -/
def State.ief1 (s : State) : Bool := s.sr.getLsbD 5

/-- R44: IM, `SR[4:3]`. -/
def State.im (s : State) : BitVec 2 := s.sr.extractLsb' 3 2

/-- R45: LCK, `SR[1]`. -/
def State.lck (s : State) : Bool := s.sr.getLsbD 1

/-- R15: `LWeff`: the format a directive forces on this instruction, else SR.LW. -/
def State.lwEff (s : State) : Bool :=
  match s.ddir with
  | some d => d.lw.getD s.lw
  | none => s.lw

/-- A value with the bits of `mask` replaced by those of `v`. -/
def maskedBits (mask old v : Long) : Long := (old &&& ~~~mask) ||| (v &&& mask)

/-- SR with the bits of `mask` taken from `v`: every write of SR goes through here (R444). -/
def State.srUpdate (s : State) (mask v : Long) : State := { s with sr := maskedBits mask s.sr v }

/-- SR with the bits of `mask` all set or all cleared. -/
def State.srBits (s : State) (mask : Long) (b : Bool) : State := s.srUpdate mask (if b then mask else 0)

/-- SR with the bits of `mask` inverted (R321, R322, R331 to R333). -/
def State.srToggle (s : State) (mask : Long) : State := s.srUpdate mask (~~~s.sr)

/-- R444: the bits of SR a write by LDCTL or POP SR can change: those printed 0 stay 0, and XM is written by neither. -/
def srWritable : Long := 0x0707077B

/-- SR after a write of `v` to the bits of `mask`, legalised as R444 says. -/
def State.srWrite (s : State) (mask v : Long) : State := s.srUpdate (mask &&& srWritable) v

/-! ## Registers -/

/-- R33: the set of BC, DE, HL that the selectors choose, the primed one when `twin` holds. -/
def State.gpSet (s : State) (twin : Bool) : GpSet := s.gp.getIn s.mainBank (s.alt ^^ twin)

/-- One set of BC, DE, HL replaced. -/
def State.setGpSet (s : State) (twin : Bool) (v : GpSet) : State :=
  { s with gp := s.gp.putIn s.mainBank (s.alt ^^ twin) v }

/-- R33: BC, DE, HL of the selected bank and set. -/
def State.pair (s : State) (p : Pair) : Long := (s.gpSet false).get p

/-- R33: a write of one selected register. -/
def State.setPair (s : State) (p : Pair) (v : Long) : State := s.setGpSet false ((s.gpSet false).put p v)

/-- R33: BC', DE', HL': the same bank, the set not selected. -/
def State.pairAlt (s : State) (p : Pair) : Long := (s.gpSet true).get p

/-- R33: a write of one primed register. -/
def State.setPairAlt (s : State) (p : Pair) (v : Long) : State := s.setGpSet true ((s.gpSet true).put p v)

/-- R33: the A and F that the selectors choose, the primed ones when `twin` holds. -/
def State.afSet (s : State) (twin : Bool) : AfSet := s.af.getIn s.mainBank (s.afp ^^ twin)

/-- One pair of A and F replaced. -/
def State.setAfSet (s : State) (twin : Bool) (v : AfSet) : State :=
  { s with af := s.af.putIn s.mainBank (s.afp ^^ twin) v }

/-- R33: the accumulator. -/
def State.a (s : State) : Byte := (s.afSet false).a

/-- R33: the flag register. -/
def State.f (s : State) : Byte := (s.afSet false).f

/-- A write of A. -/
def State.setA (s : State) (v : Byte) : State := s.setAfSet false { a := v, f := s.f }

/-- A write of F, all eight bits. -/
def State.setF (s : State) (v : Byte) : State := s.setAfSet false { a := s.a, f := v }

/-- R33: A', of the set not selected. -/
def State.aAlt (s : State) : Byte := (s.afSet true).a

/-- A write of A'; F' stays (R327). -/
def State.setAAlt (s : State) (v : Byte) : State := s.setAfSet true { a := v, f := (s.afSet true).f }

/-- R34: IX or IY of the selected bank, the primed one when `twin` holds. -/
def State.idxIn (s : State) (twin : Bool) (y : Idx) : Long :=
  match y with
  | .ix => s.ix.getIn s.ixBank (s.ixp ^^ twin)
  | .iy => s.iy.getIn s.iyBank (s.iyp ^^ twin)

/-- R34: IX or IY of the selected bank replaced. -/
def State.setIdxIn (s : State) (twin : Bool) (y : Idx) (v : Long) : State :=
  { s with
    ix := if y = .ix then s.ix.putIn s.ixBank (s.ixp ^^ twin) v else s.ix
    iy := if y = .iy then s.iy.putIn s.iyBank (s.iyp ^^ twin) v else s.iy }

/-- R34: the selected IX or IY. -/
def State.idx (s : State) (y : Idx) : Long := s.idxIn false y

/-- R34: a write of the selected IX or IY. -/
def State.setIdx (s : State) (y : Idx) (v : Long) : State := s.setIdxIn false y v

/-- R34: IX' or IY'. -/
def State.idxAlt (s : State) (y : Idx) : Long := s.idxIn true y

/-- R34: a write of IX' or IY'. -/
def State.setIdxAlt (s : State) (y : Idx) (v : Long) : State := s.setIdxIn true y v

/-- R36: a write of PC; in native mode its upper word is 0. -/
def State.setPc (s : State) (v : Long) : State := { s with pc := ringed s.xm v }

/-- R37: a write of SP; in native mode its upper word is 0. -/
def State.setSp (s : State) (v : Long) : State := { s with sp := ringed s.xm v }

/-- R36: PC past an instruction of `n` bytes. -/
def State.advance (s : State) (n : Nat) : State := s.setPc (s.pc + BitVec.ofNat 32 n)

/-- A write of Ireg. -/
def State.setIreg (s : State) (v : Long) : State := { s with ireg := v }

/-- A write of R. -/
def State.setR (s : State) (v : Byte) : State := { s with r := v }

/-- A write of IEF2. -/
def State.setIef2 (s : State) (b : Bool) : State := { s with ief2 := b }

/-- A write of the EI shadow (R51 e). -/
def State.setEiShadow (s : State) (b : Bool) : State := { s with eiShadow := b }

/-- R460: the pending directive. -/
def State.setDdir (s : State) (d : Option Ddir) : State := { s with ddir := d }

/-- R427: the halted state. -/
def State.setHalted (s : State) (b : Bool) : State := { s with halted := b }

/-- R769: the standby state. -/
def State.setStandby (s : State) (b : Bool) : State := { s with standby := b }

/-! ## Memory -/

/-- What lies at an address: the first region that holds it; RAM where no region does (log 4). -/
def kindAt : List Region → Long → RegionKind
  | [], _ => .ram
  | r :: rs, a => if r.base ≤ a ∧ a ≤ r.last then r.kind else kindAt rs a

/-- `MEM_MAP` at an address (R115). -/
def State.kind (s : State) (a : Long) : RegionKind := kindAt s.params.memMap a

/-- What the byte at an address reads as, `device` standing for what a device there answers. -/
def State.byteOr (s : State) (device : Byte) (a : Long) : Byte :=
  match s.kind a with
  | .ram => s.mem.read a.toNat
  | .rom => s.mem.read a.toNat
  | .empty v => v
  | .device => device

/-- R14: `MemRead(a, 1)`. -/
def State.readByte (s : State) (a : Long) : Byte := s.byteOr (Config.deviceByte s.clock a) a

/-- A byte of an instruction as the fetch reads it (R100: the same space as data). -/
def State.fetchByte (s : State) (a : Long) : Byte := s.byteOr (Config.deviceFetch s.clock a) a

/-- R14: `MemWrite(a, 1, v)`; a write to ROM or to nothing is dropped, one to a device is an output (log 4). Whatever lies
there, the address is one this step has written (R120). -/
def State.writeByte (s : State) (a : Long) (v : Byte) : State :=
  { s with
    mem := if s.kind a = .ram then s.mem.write a.toNat v else s.mem
    busLog := if s.kind a = .device then .deviceWrite a v :: s.busLog else s.busLog
    written := a.toNat :: s.written }

/-- R104: `MemRead(a, 2)`, little-endian, addresses modulo 2^32. -/
def State.readWord (s : State) (a : Long) : Word := s.readByte (a + 1) ++ s.readByte a

/-- R104: `MemRead(a, 4)`. -/
def State.readLong (s : State) (a : Long) : Long := s.readWord (a + 2) ++ s.readWord a

/-- R104: `MemWrite(a, 2, w)`. -/
def State.writeWord (s : State) (a : Long) (w : Word) : State :=
  (s.writeByte a (wordLo w)).writeByte (a + 1) (wordHi w)

/-- R104: `MemWrite(a, 4, v)`. -/
def State.writeLong (s : State) (a : Long) (v : Long) : State :=
  (s.writeWord a (lo16 v)).writeWord (a + 2) (ext16 v)

/-- `MemRead(a, W/8)` as 32 bits, W being 32 when `long` holds, else 16. -/
def State.readW (s : State) (long : Bool) (a : Long) : Long :=
  if long then s.readLong a else zext32 (s.readWord a)

/-- `MemWrite(a, W/8, v[W-1:0])`. -/
def State.writeW (s : State) (long : Bool) (a v : Long) : State :=
  if long then s.writeLong a v else s.writeWord a (lo16 v)

/-! ## Stack -/

/-- R16: a word of a push: the byte at the higher address first. -/
def State.pushWord (s : State) (a : Long) (w : Word) : State :=
  (s.writeByte (a + 1) (wordHi w)).writeByte a (wordLo w)

/-- R16, R285: a long word of a push: the upper half first. -/
def State.pushLong (s : State) (a : Long) (v : Long) : State :=
  (s.pushWord (a + 2) (ext16 v)).pushWord a (lo16 v)

/-- R16: the bytes of a push, from the highest address down: the image of `writeW`, stored in the other order (log 31). -/
def State.pushW (s : State) (long : Bool) (a v : Long) : State :=
  if long then s.pushLong a v else s.pushWord a (lo16 v)

/-- R16: `push_n(v)`, n being 4 when `long` holds, else 2: SP steps down, then the datum goes to where it points. -/
def State.push (s : State) (long : Bool) (v : Long) : State :=
  (s.setSp (addrAdd s.xm s.sp (-bytesOf long))).pushW long (s.setSp (addrAdd s.xm s.sp (-bytesOf long))).sp v

/-- R16: what `pop_n()` returns. -/
def State.popped (s : State) (long : Bool) : Long := s.readW long s.sp

/-- R16: the state after `pop_n()`. -/
def State.dropped (s : State) (long : Bool) : State := s.setSp (addrAdd s.xm s.sp (bytesOf long))

/-- R621: a call: the return address goes to the stack in AW bits, and PC takes the target. -/
def State.call (s : State) (ret target : Long) : State := (s.push s.xm ret).setPc target

/-- R624, R750: a return: PC takes the AW bits popped. -/
def State.popPc (s : State) : State := (s.dropped s.xm).setPc (s.popped s.xm)

/-! ## Taking an exception, and returning from one -/

/-- R735, R736, R722: what every entry does before PC takes its target: HALT and standby end, IEF1 and IEF2 take the given
values, and the return address goes to the stack in AW bits. -/
def State.enter (s : State) (ief1 ief2 : Bool) (ret : Long) : State :=
  (((({ s with halted := false, standby := false }).srBits 0x20 ief1).setIef2 ief2).push s.xm ret)

/-- R735: the entry of NMI: IEF2 keeps IEF1, IEF1 is cleared, and control goes to 66h; the latched edge is used up. -/
def State.enterNmi (s : State) : State :=
  { (s.enter false s.ief1 s.pc).setPc 0x66 with nmiPending := false }

/-- R736: the common part of a maskable entry. -/
def State.enterMaskable (s : State) : State := s.enter false false s.pc

/-- R742, R743, R745: PC takes the AW bits at an entry of a vector table. -/
def State.vectorTo (s : State) (a : Long) : State := s.setPc (s.readW s.xm a)

/-- R627, R750: the return from a handler of NMI restores IEF1 from IEF2. -/
def State.returnNmi (s : State) : State := s.popPc.srBits 0x20 s.ief2

/-! ## External and internal I/O -/

/-- R108: what the device answers to an external read: the next of `portIn`, past its end a free value (log 13); a byte read
takes the low byte. -/
def State.portAnswer (s : State) (wide : Bool) (addr : Long) : Word :=
  let w := match s.portIn with
    | [] => Config.portValue s.clock addr
    | v :: _ => v
  if wide then w else (wordLo w).setWidth 16

/-- R108: the byte an external read of one byte gives. -/
def State.portByte (s : State) (addr : Long) : Byte := wordLo (s.portAnswer false addr)

/-- R110: the word an external read of 16 bits gives. -/
def State.portWord (s : State) (addr : Long) : Word := s.portAnswer true addr

/-- The state after an external read. -/
def State.afterPortRead (s : State) (wide : Bool) (addr : Long) : State :=
  { s with portIn := s.portIn.tail, busLog := .portRead wide addr (s.portAnswer wide addr) :: s.busLog }

/-- R108: an external write hands the datum to the device. -/
def State.portWrite (s : State) (wide : Bool) (addr : Long) (w : Word) : State :=
  { s with busLog := .portWrite wide addr w :: s.busLog }

/-- R52: the register at an internal I/O address, if one is named there. -/
def IntIo.get (io : IntIo) (a : Byte) : Option Byte :=
  match a with
  | 0x00#8 => some io.lmcs0
  | 0x01#8 => some io.lmcs1
  | 0x02#8 => some io.umcs0
  | 0x03#8 => some io.umcs1
  | 0x04#8 => some io.mmcs0
  | 0x05#8 => some io.mmcs1
  | 0x06#8 => some io.mmcs2
  | 0x07#8 => some io.mmcs3
  | 0x08#8 => some io.lmwr
  | 0x09#8 => some io.umwr
  | 0x0A#8 => some io.mmwr0
  | 0x0B#8 => some io.mmwr1
  | 0x0C#8 => some io.mmwr2
  | 0x0D#8 => some io.mmwr3
  | 0x0E#8 => some io.iowr
  | 0x0F#8 => some io.rfwr
  | 0x10#8 => some io.msmer
  | 0x11#8 => some io.iocr0
  | 0x12#8 => some io.iocr1
  | 0x13#8 => some io.rfshr0
  | 0x14#8 => some io.rfshr1
  | 0x15#8 => some io.rfshr2
  | 0x16#8 => some io.smcr
  | 0x17#8 => some io.ier
  | 0x18#8 => some io.avbr
  | 0x19#8 => some io.trpbk
  | _ => none

/-- R53 to R63, R109, U8: the bits of an internal I/O register that a write reaches; those printed `0` or `-` read 0. -/
def ioMask (a : Byte) : Byte :=
  match a with
  | 0x00#8 => 0xF1
  | 0x02#8 => 0xF1
  | 0x04#8 => 0xCF
  | 0x06#8 => 0xC0
  | 0x10#8 => 0xF1
  | 0x16#8 => 0xC7
  | 0x17#8 => 0x0F
  | 0x18#8 => 0xFE
  | _ => 0xFF

/-- R109: the registers after a write of `v` to the address `a`; an address without a register takes nothing (U9). -/
def IntIo.put (io : IntIo) (a v : Byte) : IntIo :=
  let w := v &&& ioMask a
  match a with
  | 0x00#8 => { io with lmcs0 := w }
  | 0x01#8 => { io with lmcs1 := w }
  | 0x02#8 => { io with umcs0 := w }
  | 0x03#8 => { io with umcs1 := w }
  | 0x04#8 => { io with mmcs0 := w }
  | 0x05#8 => { io with mmcs1 := w }
  | 0x06#8 => { io with mmcs2 := w }
  | 0x07#8 => { io with mmcs3 := w }
  | 0x08#8 => { io with lmwr := w }
  | 0x09#8 => { io with umwr := w }
  | 0x0A#8 => { io with mmwr0 := w }
  | 0x0B#8 => { io with mmwr1 := w }
  | 0x0C#8 => { io with mmwr2 := w }
  | 0x0D#8 => { io with mmwr3 := w }
  | 0x0E#8 => { io with iowr := w }
  | 0x0F#8 => { io with rfwr := w }
  | 0x10#8 => { io with msmer := w }
  | 0x11#8 => { io with iocr0 := w }
  | 0x12#8 => { io with iocr1 := w }
  | 0x13#8 => { io with rfshr0 := w }
  | 0x14#8 => { io with rfshr1 := w }
  | 0x15#8 => { io with rfshr2 := w }
  | 0x16#8 => { io with smcr := w }
  | 0x17#8 => { io with ier := w }
  | 0x18#8 => { io with avbr := w }
  | 0x19#8 => { io with trpbk := w }
  | _ => io

/-- R109: `IORead(INT, a, 1)`; at an address without a register a free value (U9, log 28). -/
def State.ioRead (s : State) (a : Byte) : Byte := (s.io.get a).getD (Config.unnamedIo s.clock a)

/-- R109: `IOWrite(INT, a, 1, v)`. -/
def State.ioWrite (s : State) (a v : Byte) : State := { s with io := s.io.put a v }

/-- R60: SMCR.STBY. -/
def State.stby (s : State) : Bool := s.io.smcr.getLsbD 7

/-- R60: SMCR.BRXT. -/
def State.brxt (s : State) : Bool := s.io.smcr.getLsbD 6

end Sys2Proof.Machine
end

