-- ==== Sys2Proof/Machine/Operands.lean ====
section
/-! DEFINITION. The operand forms: what each names, the effective addresses of R201, and the sizes of the extendable fields. -/

namespace Sys2Proof.Machine

/-- R469: a displacement is sign-extended to 32 bits. -/
def dispValue (d : Disp) : Long :=
  match d with
  | .d8 v => sext32 v
  | .d16 v => sext32 v
  | .d24 v => sext32 v

/-- R469: the bytes of a displacement field. -/
def dispSize (d : Disp) : Nat :=
  match d with
  | .d8 _ => 1
  | .d16 _ => 2
  | .d24 _ => 3

/-- R469, R251: an address or datum field is zero-extended. -/
def immValue (v : Imm) : Long :=
  match v with
  | .i16 v => zext32 v
  | .i24 v => zext32 v
  | .i32 v => v

/-- R469: the bytes of an address or datum field. -/
def immSize (v : Imm) : Nat :=
  match v with
  | .i16 _ => 2
  | .i24 _ => 3
  | .i32 _ => 4

/-- R201: `EA_idx(XY, disp)`, a 32-bit sum in both modes. -/
def State.eaIdx (s : State) (y : Idx) (d : Disp) : Long := s.idx y + dispValue d

/-- R201: `EA_sp(disp)`. -/
def State.eaSp (s : State) (d : Disp) : Long := s.sp + dispValue d

/-- R31, R200: an 8-bit register. -/
def State.reg8 (s : State) (r : Reg8) : Byte :=
  match r with
  | .b => hi8 (s.pair .bc)
  | .c => lo8 (s.pair .bc)
  | .d => hi8 (s.pair .de)
  | .e => lo8 (s.pair .de)
  | .h => hi8 (s.pair .hl)
  | .l => lo8 (s.pair .hl)
  | .a => s.a

/-- R31: a write of an 8-bit register; the other parts of its pair stay. -/
def State.setReg8 (s : State) (r : Reg8) (v : Byte) : State :=
  match r with
  | .b => s.setPair .bc (withHi8 (s.pair .bc) v)
  | .c => s.setPair .bc (withLo8 (s.pair .bc) v)
  | .d => s.setPair .de (withHi8 (s.pair .de) v)
  | .e => s.setPair .de (withLo8 (s.pair .de) v)
  | .h => s.setPair .hl (withHi8 (s.pair .hl) v)
  | .l => s.setPair .hl (withLo8 (s.pair .hl) v)
  | .a => s.setA v

/-- R327: the primed twin of an 8-bit register. -/
def State.reg8Alt (s : State) (r : Reg8) : Byte :=
  match r with
  | .b => hi8 (s.pairAlt .bc)
  | .c => lo8 (s.pairAlt .bc)
  | .d => hi8 (s.pairAlt .de)
  | .e => lo8 (s.pairAlt .de)
  | .h => hi8 (s.pairAlt .hl)
  | .l => lo8 (s.pairAlt .hl)
  | .a => s.aAlt

/-- R327: a write of the primed twin of an 8-bit register. -/
def State.setReg8Alt (s : State) (r : Reg8) (v : Byte) : State :=
  match r with
  | .b => s.setPairAlt .bc (withHi8 (s.pairAlt .bc) v)
  | .c => s.setPairAlt .bc (withLo8 (s.pairAlt .bc) v)
  | .d => s.setPairAlt .de (withHi8 (s.pairAlt .de) v)
  | .e => s.setPairAlt .de (withLo8 (s.pairAlt .de) v)
  | .h => s.setPairAlt .hl (withHi8 (s.pairAlt .hl) v)
  | .l => s.setPairAlt .hl (withLo8 (s.pairAlt .hl) v)
  | .a => s.setAAlt v

/-- R34, R391: a half of the selected index register. -/
def State.half (s : State) (y : Idx) (h : Half) : Byte :=
  match h with
  | .u => hi8 (s.idx y)
  | .l => lo8 (s.idx y)

/-- R220, R391: a write of a half; the other bits of the index register stay. -/
def State.setHalf (s : State) (y : Idx) (h : Half) (v : Byte) : State :=
  match h with
  | .u => s.setIdx y (withHi8 (s.idx y) v)
  | .l => s.setIdx y (withLo8 (s.idx y) v)

/-- R221: the source of a load of a half. -/
def State.halfSrc (s : State) (y : Idx) (src : HalfSrc) : Byte :=
  match src with
  | .reg r => s.reg8 r
  | .half h => s.half y h

/-- R253: a pair of the Z80's field `dd`. -/
def State.pair4 (s : State) (p : Pair4) : Long :=
  match p with
  | .bc => s.pair .bc
  | .de => s.pair .de
  | .hl => s.pair .hl
  | .sp => s.sp

/-- A write of a pair of the Z80's field `dd`. -/
def State.setPair4 (s : State) (p : Pair4) (v : Long) : State :=
  match p with
  | .bc => s.setPair .bc v
  | .de => s.setPair .de v
  | .hl => s.setPair .hl v
  | .sp => s.setSp v

/-- R487: the source of ADD XY,tt. -/
def State.addSrc (s : State) (y : Idx) (t : AddSrc) : Long :=
  match t with
  | .bc => s.pair .bc
  | .de => s.pair .de
  | .same => s.idx y
  | .sp => s.sp

/-- The index register that is not `y` (R269, R273, R277). -/
def otherIdx (y : Idx) : Idx :=
  match y with
  | .ix => .iy
  | .iy => .ix

/-- R483, R511, R560: a 16-bit operand of page ED CB. -/
def State.wordOp (s : State) (x : WordOp) : Word :=
  match x with
  | .bc => lo16 (s.pair .bc)
  | .de => lo16 (s.pair .de)
  | .indHl => s.readWord (s.pair .hl)
  | .hl => lo16 (s.pair .hl)
  | .ix => lo16 (s.idx .ix)
  | .iy => lo16 (s.idx .iy)

/-- R560: a write of a 16-bit operand; bits 31:16 of a register stay. -/
def State.setWordOp (s : State) (x : WordOp) (w : Word) : State :=
  match x with
  | .bc => s.setPair .bc (withLo16 (s.pair .bc) w)
  | .de => s.setPair .de (withLo16 (s.pair .de) w)
  | .indHl => s.writeWord (s.pair .hl) w
  | .hl => s.setPair .hl (withLo16 (s.pair .hl) w)
  | .ix => s.setIdx .ix (withLo16 (s.idx .ix) w)
  | .iy => s.setIdx .iy (withLo16 (s.idx .iy) w)

/-- `wr_W` on a pair (R15, R250): W follows the data format in force. -/
def State.wrPair (s : State) (p : Pair) (v : Long) : State := s.setPair p (wrW s.lwEff (s.pair p) v)

/-- `wr_W` on a primed pair (R328). -/
def State.wrPairAlt (s : State) (p : Pair) (v : Long) : State := s.setPairAlt p (wrW s.lwEff (s.pairAlt p) v)

/-- `wr_W` on a pair of the field `dd`. -/
def State.wrPair4 (s : State) (p : Pair4) (v : Long) : State := s.setPair4 p (wrW s.lwEff (s.pair4 p) v)

/-- `wr_W` on an index register. -/
def State.wrIdx (s : State) (y : Idx) (v : Long) : State := s.setIdx y (wrW s.lwEff (s.idx y) v)

/-- `wr_W` on a primed index register (R329). -/
def State.wrIdxAlt (s : State) (y : Idx) (v : Long) : State := s.setIdxAlt y (wrW s.lwEff (s.idxAlt y) v)

/-- `MemRead(a, W/8)`, W following the data format in force. -/
def State.loadW (s : State) (a : Long) : Long := s.readW s.lwEff a

/-- `MemWrite(a, W/8, v[W-1:0])`, W following the data format in force. -/
def State.storeW (s : State) (a v : Long) : State := s.writeW s.lwEff a v

/-- A write of bits 15:0 of a pair (D19). -/
def State.setPairLo (s : State) (p : Pair) (w : Word) : State := s.setPair p (withLo16 (s.pair p) w)

/-- R340: the counter BC[15:0]. -/
def State.count (s : State) : Word := lo16 (s.pair .bc)

/-- R340: a pointer stepped by `addr_add`. -/
def State.stepPair (s : State) (p : Pair) (k : Long) : State := s.setPair p (addrAdd s.xm (s.pair p) k)

end Sys2Proof.Machine
end

