-- ==== Sys2Proof/Machine/Flags.lean ====
section
/-! DEFINITION. The flag register and every flag computation of the spec: R48, R49, R381, R482, R542, R650. -/

namespace Sys2Proof.Machine

/-- R48: the six named flags of F. -/
structure Flags where
  s  : Bool
  z  : Bool
  h  : Bool
  pv : Bool
  n  : Bool
  c  : Bool
  deriving DecidableEq, Repr

/-- R48: the flags of a flag byte. -/
def flagsOf (f : Byte) : Flags where
  s := f.getLsbD 7
  z := f.getLsbD 6
  h := f.getLsbD 4
  pv := f.getLsbD 2
  n := f.getLsbD 1
  c := f.getLsbD 0

/-- R48: the flag byte of six flags, bits 5 and 3 those of `x`. -/
def packFlags (fl : Flags) (x : Byte) : Byte :=
  bit1 fl.s ++ bit1 fl.z ++ x.extractLsb' 5 1 ++ bit1 fl.h ++ x.extractLsb' 3 1 ++ bit1 fl.pv ++ bit1 fl.n ++ bit1 fl.c

/-- The flags of the selected F. -/
def State.flags (s : State) : Flags := flagsOf s.f

/-- Flag C of the selected F. -/
def State.carry (s : State) : Bool := s.f.getLsbD 0

/-- The draws of this step for the bits of F (R13, U1; log 11, 37). -/
def State.draws (s : State) : Byte := Config.drawFlags s.clock

/-- A computed write of F: bits 5 and 3 are drawn (R48, D10). -/
def State.setFlags (s : State) (fl : Flags) : State := s.setF (packFlags fl s.draws)

/-- R49: the truth of a condition. -/
def State.cond (s : State) (cc : Cond) : Bool :=
  match cc with
  | .nz => !s.flags.z
  | .z => s.flags.z
  | .nc => !s.flags.c
  | .c => s.flags.c
  | .po => !s.flags.pv
  | .pe => s.flags.pv
  | .p => !s.flags.s
  | .m => s.flags.s

/-- R14: parity over the two bytes of a word. -/
def evenParity16 (w : Word) : Bool := evenParity (wordLo w) == evenParity (wordHi w)

/-- The carry-in as a number. -/
def carryNat (c : Bool) : Nat := c.toNat

/-- The sum with carry-in, modulo 2^n. -/
def addC {n : Nat} (a b : BitVec n) (c : Bool) : BitVec n := a + b + BitVec.ofNat n (carryNat c)

/-- The difference with borrow-in, modulo 2^n. -/
def subC {n : Nat} (a b : BitVec n) (c : Bool) : BitVec n := a - b - BitVec.ofNat n (carryNat c)

/-- R381, R482: the add function; H is the carry out of bit `half - 1`. -/
def addFlags {n : Nat} (half : Nat) (a b : BitVec n) (c : Bool) : Flags where
  s := (addC a b c).msb
  z := addC a b c == 0
  h := decide (a.toNat % 2 ^ half + b.toNat % 2 ^ half + carryNat c ≥ 2 ^ half)
  pv := a.msb == b.msb && (addC a b c).msb != a.msb
  n := false
  c := decide (a.toNat + b.toNat + carryNat c ≥ 2 ^ n)

/-- R381, R482: the subtract function; H is the borrow into bit `half`. -/
def subFlags {n : Nat} (half : Nat) (a b : BitVec n) (c : Bool) : Flags where
  s := (subC a b c).msb
  z := subC a b c == 0
  h := decide (a.toNat % 2 ^ half < b.toNat % 2 ^ half + carryNat c)
  pv := a.msb != b.msb && (subC a b c).msb != a.msb
  n := true
  c := decide (a.toNat < b.toNat + carryNat c)

/-- R381: the logic function on a byte, `h` being 1 for AND and TST. -/
def logicFlags8 (h : Bool) (t : Byte) : Flags where
  s := t.msb
  z := t == 0
  h := h
  pv := evenParity t
  n := false
  c := false

/-- R482: the logic function on a word. -/
def logicFlags16 (h : Bool) (t : Word) : Flags where
  s := t.msb
  z := t == 0
  h := h
  pv := evenParity16 t
  n := false
  c := false

/-- R542: the flags of a rotate or shift of a byte. -/
def shiftFlags8 (t : Byte) (cout : Bool) : Flags where
  s := t.msb
  z := t == 0
  h := false
  pv := evenParity t
  n := false
  c := cout

/-- R542, R560: the flags of a rotate or shift of a word. -/
def shiftFlags16 (t : Word) (cout : Bool) : Flags where
  s := t.msb
  z := t == 0
  h := false
  pv := evenParity16 t
  n := false
  c := cout

/-- R650: the input flags on a byte; C stays. -/
def inputFlags8 (old : Flags) (t : Byte) : Flags where
  s := t.msb
  z := t == 0
  h := false
  pv := evenParity t
  n := false
  c := old.c

/-- R671: the input flags on a word; C stays. -/
def inputFlags16 (old : Flags) (t : Word) : Flags where
  s := t.msb
  z := t == 0
  h := false
  pv := evenParity16 t
  n := false
  c := old.c

/-- R390: the flags of INC on a byte; C stays. -/
def incFlags (old : Flags) (v : Byte) : Flags where
  s := (v + 1).msb
  z := v + 1 == 0
  h := v.extractLsb' 0 4 == 15
  pv := v == 0x7F
  n := false
  c := old.c

/-- R392: the flags of DEC on a byte; C stays. -/
def decFlags (old : Flags) (v : Byte) : Flags where
  s := (v - 1).msb
  z := v - 1 == 0
  h := v.extractLsb' 0 4 == 0
  pv := v == 0x80
  n := true
  c := old.c

/-- R482, D22: H and C of an addition of the address-arithmetic family, with N = 0; S, Z, P/V stay. -/
def State.addressAddFlags (s : State) (a b : Long) : Flags :=
  let short := addFlags 12 (lo16 a) (lo16 b) false
  let wide := addFlags 12 a b false
  let hc : Bool × Bool :=
    if s.xm then
      match s.params.xmAddFlags with
      | .wide => (wide.h, wide.c)
      | .narrow => (short.h, short.c)
      | .draw => (s.draws.getLsbD 4, s.draws.getLsbD 0)
    else (short.h, short.c)
  { s.flags with h := hc.1, n := false, c := hc.2 }

/-- R482, D22: H and C of a subtraction of the address-arithmetic family, with N = 1; S, Z, P/V stay. -/
def State.addressSubFlags (s : State) (a b : Long) : Flags :=
  let short := subFlags 12 (lo16 a) (lo16 b) false
  let wide := subFlags 12 a b false
  let hc : Bool × Bool :=
    if s.xm then
      match s.params.xmAddFlags with
      | .wide => (wide.h, wide.c)
      | .narrow => (short.h, short.c)
      | .draw => (s.draws.getLsbD 4, s.draws.getLsbD 0)
    else (short.h, short.c)
  { s.flags with h := hc.1, n := true, c := hc.2 }

/-- R341: the flags of a block transfer: H = N = 0, P/V says the counter is not yet 0. -/
def transferFlags (old : Flags) (count : Word) : Flags := { old with h := false, pv := count != 0, n := false }

/-- R345: the flags of a block search step; C stays. -/
def searchFlags (old : Flags) (a m : Byte) (count : Word) : Flags where
  s := (a - m).msb
  z := a - m == 0
  h := (subFlags 4 a m false).h
  pv := count != 0
  n := true
  c := old.c

/-- R655, R670: the flags of block I/O on the external space: Z and N as said, the rest drawn. -/
def State.blockIoFlags (s : State) (z : Bool) : Flags where
  s := s.draws.getLsbD 7
  z := z
  h := s.draws.getLsbD 4
  pv := s.draws.getLsbD 2
  n := true
  c := s.draws.getLsbD 0

/-- R695: the flags of the OTIM family: Z and N as in block I/O (D23, U1: log 40), the rest drawn. -/
def State.otimFlags (s : State) (z : Bool) : Flags := s.blockIoFlags z

/-- R581: the flags of BIT: Z as said, H = 1, N = 0, C stays, S and P/V drawn. -/
def State.bitFlags (s : State) (z : Bool) : Flags where
  s := s.draws.getLsbD 7
  z := z
  h := true
  pv := s.draws.getLsbD 2
  n := false
  c := s.flags.c

/-- R543: the flags of the four accumulator rotates. -/
def rotateAFlags (old : Flags) (cout : Bool) : Flags := { old with h := false, n := false, c := cout }

/-- R214, R217: the flags of LD A,I and LD A,R. -/
def loadIrFlags (old : Flags) (v : Byte) (ief2 : Bool) : Flags where
  s := v.msb
  z := v == 0
  h := false
  pv := ief2
  n := false
  c := old.c

end Sys2Proof.Machine
end

