-- ==== Sys2Proof/Machine/Alu16.lean ====
section
/-! DEFINITION. 16- and 32-bit arithmetic and logic (R480 to R502). -/

namespace Sys2Proof.Machine

/-- R484, R491, R501: the AW-bit sum; in native mode bits 31:16 of `a` stay (R481). -/
def State.addAw (s : State) (a b : Long) : Long := addrAdd s.xm a b

/-- R492, R502: the AW-bit difference. -/
def State.subAw (s : State) (a b : Long) : Long := addrAdd s.xm a (-b)

/-- The word in HL, the accumulator of the word family (R480). -/
def State.hlWord (s : State) : Word := lo16 (s.pair .hl)

/-- R485, R493, R494: HL[15:0] takes the sum with an operand and a carry. -/
def State.addHl (s : State) (v : Word) (c : Bool) : State :=
  (s.setPairLo .hl (addC s.hlWord v c)).setFlags (addFlags 12 s.hlWord v c)

/-- R486, R495, R496: HL[15:0] takes the difference from an operand and a borrow. -/
def State.subHl (s : State) (v : Word) (c : Bool) : State :=
  (s.setPairLo .hl (subC s.hlWord v c)).setFlags (subFlags 12 s.hlWord v c)

/-- R497. -/
def State.andHl (s : State) (v : Word) : State :=
  (s.setPairLo .hl (s.hlWord &&& v)).setFlags (logicFlags16 true (s.hlWord &&& v))

/-- R499. -/
def State.xorHl (s : State) (v : Word) : State :=
  (s.setPairLo .hl (s.hlWord ^^^ v)).setFlags (logicFlags16 false (s.hlWord ^^^ v))

/-- R498. -/
def State.orHl (s : State) (v : Word) : State :=
  (s.setPairLo .hl (s.hlWord ||| v)).setFlags (logicFlags16 false (s.hlWord ||| v))

/-- R500: the flags of a comparison with HL[15:0]. -/
def State.cpHl (s : State) (v : Word) : State := s.setFlags (subFlags 12 s.hlWord v false)

/-- R484: HL takes the AW-bit sum with an operand. -/
def State.addHlAw (s : State) (b : Long) : State :=
  (s.setPair .hl (s.addAw (s.pair .hl) b)).setFlags (s.addressAddFlags (s.pair .hl) b)

/-- R502: HL takes the AW-bit difference from an operand. -/
def State.subHlAw (s : State) (b : Long) : State :=
  (s.setPair .hl (s.subAw (s.pair .hl) b)).setFlags (s.addressSubFlags (s.pair .hl) b)

/-- R488: `INC p`. -/
def execIncDd (dd : Pair4) (s : State) : Exec := .next ((s.advance 1).setPair4 dd (s.addAw (s.pair4 dd) 1))

/-- R489: `DEC p`. -/
def execDecDd (dd : Pair4) (s : State) : Exec := .next ((s.advance 1).setPair4 dd (s.subAw (s.pair4 dd) 1))

/-- R484: `ADD HL,p`. -/
def execAddHlDd (dd : Pair4) (s : State) : Exec := .next ((s.advance 1).addHlAw (s.pair4 dd))

/-- R487: `ADD XY,t`. -/
def execAddXyTt (y : Idx) (tt : AddSrc) (s : State) : Exec :=
  .next (((s.advance 2).setIdx y (s.addAw (s.idx y) (s.addSrc y tt))).setFlags (s.addressAddFlags (s.idx y) (s.addSrc y tt)))

/-- R490: `INC XY`. -/
def execIncXy (y : Idx) (s : State) : Exec := .next ((s.advance 2).setIdx y (s.addAw (s.idx y) 1))

/-- R490: `DEC XY`. -/
def execDecXy (y : Idx) (s : State) : Exec := .next ((s.advance 2).setIdx y (s.subAw (s.idx y) 1))

/-- R493: `ADDW HL,XY`. -/
def execAddwHlXy (y : Idx) (s : State) : Exec := .next ((s.advance 2).addHl (lo16 (s.idx y)) false)

/-- R493: `ADDW HL,(XY+d)`. -/
def execAddwHlIdxD (y : Idx) (d : Disp) (s : State) : Exec :=
  .next ((s.advance (2 + dispSize d)).addHl (s.readWord (s.eaIdx y d)) false)

/-- R493: `ADDW HL,p`. -/
def execAddwHlPp (pp : Pair) (s : State) : Exec := .next ((s.advance 2).addHl (lo16 (s.pair pp)) false)

/-- R493: `ADDW HL,nn`. -/
def execAddwHlNn (nn : Imm) (s : State) : Exec := .next ((s.advance (2 + immSize nn)).addHl (lo16 (immValue nn)) false)

/-- R494: `ADCW HL,XY`. -/
def execAdcwHlXy (y : Idx) (s : State) : Exec := .next ((s.advance 2).addHl (lo16 (s.idx y)) s.carry)

/-- R494: `ADCW HL,(XY+d)`. -/
def execAdcwHlIdxD (y : Idx) (d : Disp) (s : State) : Exec :=
  .next ((s.advance (2 + dispSize d)).addHl (s.readWord (s.eaIdx y d)) s.carry)

/-- R494: `ADCW HL,p`. -/
def execAdcwHlPp (pp : Pair) (s : State) : Exec := .next ((s.advance 2).addHl (lo16 (s.pair pp)) s.carry)

/-- R494: `ADCW HL,nn`. -/
def execAdcwHlNn (nn : Imm) (s : State) : Exec :=
  .next ((s.advance (2 + immSize nn)).addHl (lo16 (immValue nn)) s.carry)

/-- R495: `SUBW HL,XY`. -/
def execSubwHlXy (y : Idx) (s : State) : Exec := .next ((s.advance 2).subHl (lo16 (s.idx y)) false)

/-- R495: `SUBW HL,(XY+d)`. -/
def execSubwHlIdxD (y : Idx) (d : Disp) (s : State) : Exec :=
  .next ((s.advance (2 + dispSize d)).subHl (s.readWord (s.eaIdx y d)) false)

/-- R495: `SUBW HL,p`. -/
def execSubwHlPp (pp : Pair) (s : State) : Exec := .next ((s.advance 2).subHl (lo16 (s.pair pp)) false)

/-- R495: `SUBW HL,nn`. -/
def execSubwHlNn (nn : Imm) (s : State) : Exec := .next ((s.advance (2 + immSize nn)).subHl (lo16 (immValue nn)) false)

/-- R496: `SBCW HL,XY`. -/
def execSbcwHlXy (y : Idx) (s : State) : Exec := .next ((s.advance 2).subHl (lo16 (s.idx y)) s.carry)

/-- R496: `SBCW HL,(XY+d)`. -/
def execSbcwHlIdxD (y : Idx) (d : Disp) (s : State) : Exec :=
  .next ((s.advance (2 + dispSize d)).subHl (s.readWord (s.eaIdx y d)) s.carry)

/-- R496: `SBCW HL,p`. -/
def execSbcwHlPp (pp : Pair) (s : State) : Exec := .next ((s.advance 2).subHl (lo16 (s.pair pp)) s.carry)

/-- R496: `SBCW HL,nn`. -/
def execSbcwHlNn (nn : Imm) (s : State) : Exec :=
  .next ((s.advance (2 + immSize nn)).subHl (lo16 (immValue nn)) s.carry)

/-- R497: `ANDW HL,XY`. -/
def execAndwHlXy (y : Idx) (s : State) : Exec := .next ((s.advance 2).andHl (lo16 (s.idx y)))

/-- R497: `ANDW HL,(XY+d)`. -/
def execAndwHlIdxD (y : Idx) (d : Disp) (s : State) : Exec :=
  .next ((s.advance (2 + dispSize d)).andHl (s.readWord (s.eaIdx y d)))

/-- R497: `ANDW HL,p`. -/
def execAndwHlPp (pp : Pair) (s : State) : Exec := .next ((s.advance 2).andHl (lo16 (s.pair pp)))

/-- R497: `ANDW HL,nn`. -/
def execAndwHlNn (nn : Imm) (s : State) : Exec := .next ((s.advance (2 + immSize nn)).andHl (lo16 (immValue nn)))

/-- R499: `XORW HL,XY`. -/
def execXorwHlXy (y : Idx) (s : State) : Exec := .next ((s.advance 2).xorHl (lo16 (s.idx y)))

/-- R499: `XORW HL,(XY+d)`. -/
def execXorwHlIdxD (y : Idx) (d : Disp) (s : State) : Exec :=
  .next ((s.advance (2 + dispSize d)).xorHl (s.readWord (s.eaIdx y d)))

/-- R499: `XORW HL,p`. -/
def execXorwHlPp (pp : Pair) (s : State) : Exec := .next ((s.advance 2).xorHl (lo16 (s.pair pp)))

/-- R499: `XORW HL,nn`. -/
def execXorwHlNn (nn : Imm) (s : State) : Exec := .next ((s.advance (2 + immSize nn)).xorHl (lo16 (immValue nn)))

/-- R498: `ORW HL,XY`. -/
def execOrwHlXy (y : Idx) (s : State) : Exec := .next ((s.advance 2).orHl (lo16 (s.idx y)))

/-- R498: `ORW HL,(XY+d)`. -/
def execOrwHlIdxD (y : Idx) (d : Disp) (s : State) : Exec :=
  .next ((s.advance (2 + dispSize d)).orHl (s.readWord (s.eaIdx y d)))

/-- R498: `ORW HL,p`. -/
def execOrwHlPp (pp : Pair) (s : State) : Exec := .next ((s.advance 2).orHl (lo16 (s.pair pp)))

/-- R498: `ORW HL,nn`. -/
def execOrwHlNn (nn : Imm) (s : State) : Exec := .next ((s.advance (2 + immSize nn)).orHl (lo16 (immValue nn)))

/-- R500: `CPW HL,XY`. -/
def execCpwHlXy (y : Idx) (s : State) : Exec := .next ((s.advance 2).cpHl (lo16 (s.idx y)))

/-- R500: `CPW HL,(XY+d)`. -/
def execCpwHlIdxD (y : Idx) (d : Disp) (s : State) : Exec :=
  .next ((s.advance (2 + dispSize d)).cpHl (s.readWord (s.eaIdx y d)))

/-- R500: `CPW HL,p`. -/
def execCpwHlPp (pp : Pair) (s : State) : Exec := .next ((s.advance 2).cpHl (lo16 (s.pair pp)))

/-- R500: `CPW HL,nn`. -/
def execCpwHlNn (nn : Imm) (s : State) : Exec := .next ((s.advance (2 + immSize nn)).cpHl (lo16 (immValue nn)))

/-- R486: `SBC HL,p`. -/
def execSbcHlDd (dd : Pair4) (s : State) : Exec := .next ((s.advance 2).subHl (lo16 (s.pair4 dd)) s.carry)

/-- R485: `ADC HL,p`. -/
def execAdcHlDd (dd : Pair4) (s : State) : Exec := .next ((s.advance 2).addHl (lo16 (s.pair4 dd)) s.carry)

/-- R491: `ADD SP,nn`. -/
def execAddSpNn (nn : Imm) (s : State) : Exec :=
  .next (((s.advance (2 + immSize nn)).setSp (s.addAw s.sp (immValue nn))).setFlags (s.addressAddFlags s.sp (immValue nn)))

/-- R492: `SUB SP,nn`. -/
def execSubSpNn (nn : Imm) (s : State) : Exec :=
  .next (((s.advance (2 + immSize nn)).setSp (s.subAw s.sp (immValue nn))).setFlags (s.addressSubFlags s.sp (immValue nn)))

/-- R501: `ADD HL,(nn)`. -/
def execAddHlDirNn (nn : Imm) (s : State) : Exec :=
  .next ((s.advance (2 + immSize nn)).addHlAw (s.readW s.xm (immValue nn)))

/-- R502: `SUB HL,(nn)`. -/
def execSubHlDirNn (nn : Imm) (s : State) : Exec :=
  .next ((s.advance (2 + immSize nn)).subHlAw (s.readW s.xm (immValue nn)))

end Sys2Proof.Machine
end

