-- ==== Sys2Proof/Machine/Alu8.lean ====
section
/-! DEFINITION. The 8-bit arithmetic and logic group (R380 to R395). -/

namespace Sys2Proof.Machine

/-- R382, R383: A takes the sum with an operand and a carry. -/
def State.addA (s : State) (v : Byte) (c : Bool) : State := (s.setA (addC s.a v c)).setFlags (addFlags 4 s.a v c)

/-- R384, R385: A takes the difference from an operand and a borrow. -/
def State.subA (s : State) (v : Byte) (c : Bool) : State := (s.setA (subC s.a v c)).setFlags (subFlags 4 s.a v c)

/-- R386. -/
def State.andA (s : State) (v : Byte) : State := (s.setA (s.a &&& v)).setFlags (logicFlags8 true (s.a &&& v))

/-- R387. -/
def State.xorA (s : State) (v : Byte) : State := (s.setA (s.a ^^^ v)).setFlags (logicFlags8 false (s.a ^^^ v))

/-- R388. -/
def State.orA (s : State) (v : Byte) : State := (s.setA (s.a ||| v)).setFlags (logicFlags8 false (s.a ||| v))

/-- R389: the flags of a comparison with A. -/
def State.cpA (s : State) (v : Byte) : State := s.setFlags (subFlags 4 s.a v false)

/-- R393: the flags of A AND an operand. -/
def State.tstA (s : State) (v : Byte) : State := s.setFlags (logicFlags8 true (s.a &&& v))

/-- R390: a memory byte incremented in place. -/
def State.incMem (s : State) (a : Long) : State :=
  (s.writeByte a (s.readByte a + 1)).setFlags (incFlags s.flags (s.readByte a))

/-- R392: a memory byte decremented in place. -/
def State.decMem (s : State) (a : Long) : State :=
  (s.writeByte a (s.readByte a - 1)).setFlags (decFlags s.flags (s.readByte a))

/-- R390: `INC r`. -/
def execIncR (r : Reg8) (s : State) : Exec :=
  .next (((s.advance 1).setReg8 r (s.reg8 r + 1)).setFlags (incFlags s.flags (s.reg8 r)))

/-- R390: `INC (HL)`. -/
def execIncIndHl (s : State) : Exec := .next ((s.advance 1).incMem (s.pair .hl))

/-- R392: `DEC r`. -/
def execDecR (r : Reg8) (s : State) : Exec :=
  .next (((s.advance 1).setReg8 r (s.reg8 r - 1)).setFlags (decFlags s.flags (s.reg8 r)))

/-- R392: `DEC (HL)`. -/
def execDecIndHl (s : State) : Exec := .next ((s.advance 1).decMem (s.pair .hl))

/-- R382: `ADD A,r`. -/
def execAddAR (r : Reg8) (s : State) : Exec := .next ((s.advance 1).addA (s.reg8 r) false)

/-- R382: `ADD A,(HL)`. -/
def execAddAIndHl (s : State) : Exec := .next ((s.advance 1).addA (s.readByte (s.pair .hl)) false)

/-- R382: `ADD A,n`. -/
def execAddAN (n : BitVec 8) (s : State) : Exec := .next ((s.advance 2).addA n false)

/-- R383: `ADC A,r`. -/
def execAdcAR (r : Reg8) (s : State) : Exec := .next ((s.advance 1).addA (s.reg8 r) s.carry)

/-- R383: `ADC A,(HL)`. -/
def execAdcAIndHl (s : State) : Exec := .next ((s.advance 1).addA (s.readByte (s.pair .hl)) s.carry)

/-- R383: `ADC A,n`. -/
def execAdcAN (n : BitVec 8) (s : State) : Exec := .next ((s.advance 2).addA n s.carry)

/-- R384: `SUB r`. -/
def execSubR (r : Reg8) (s : State) : Exec := .next ((s.advance 1).subA (s.reg8 r) false)

/-- R384: `SUB (HL)`. -/
def execSubIndHl (s : State) : Exec := .next ((s.advance 1).subA (s.readByte (s.pair .hl)) false)

/-- R384: `SUB n`. -/
def execSubN (n : BitVec 8) (s : State) : Exec := .next ((s.advance 2).subA n false)

/-- R385: `SBC A,r`. -/
def execSbcAR (r : Reg8) (s : State) : Exec := .next ((s.advance 1).subA (s.reg8 r) s.carry)

/-- R385: `SBC A,(HL)`. -/
def execSbcAIndHl (s : State) : Exec := .next ((s.advance 1).subA (s.readByte (s.pair .hl)) s.carry)

/-- R385: `SBC A,n`. -/
def execSbcAN (n : BitVec 8) (s : State) : Exec := .next ((s.advance 2).subA n s.carry)

/-- R386: `AND r`. -/
def execAndR (r : Reg8) (s : State) : Exec := .next ((s.advance 1).andA (s.reg8 r))

/-- R386: `AND (HL)`. -/
def execAndIndHl (s : State) : Exec := .next ((s.advance 1).andA (s.readByte (s.pair .hl)))

/-- R386: `AND n`. -/
def execAndN (n : BitVec 8) (s : State) : Exec := .next ((s.advance 2).andA n)

/-- R387: `XOR r`. -/
def execXorR (r : Reg8) (s : State) : Exec := .next ((s.advance 1).xorA (s.reg8 r))

/-- R387: `XOR (HL)`. -/
def execXorIndHl (s : State) : Exec := .next ((s.advance 1).xorA (s.readByte (s.pair .hl)))

/-- R387: `XOR n`. -/
def execXorN (n : BitVec 8) (s : State) : Exec := .next ((s.advance 2).xorA n)

/-- R388: `OR r`. -/
def execOrR (r : Reg8) (s : State) : Exec := .next ((s.advance 1).orA (s.reg8 r))

/-- R388: `OR (HL)`. -/
def execOrIndHl (s : State) : Exec := .next ((s.advance 1).orA (s.readByte (s.pair .hl)))

/-- R388: `OR n`. -/
def execOrN (n : BitVec 8) (s : State) : Exec := .next ((s.advance 2).orA n)

/-- R389: `CP r`. -/
def execCpR (r : Reg8) (s : State) : Exec := .next ((s.advance 1).cpA (s.reg8 r))

/-- R389: `CP (HL)`. -/
def execCpIndHl (s : State) : Exec := .next ((s.advance 1).cpA (s.readByte (s.pair .hl)))

/-- R389: `CP n`. -/
def execCpN (n : BitVec 8) (s : State) : Exec := .next ((s.advance 2).cpA n)

/-- R390: `INC h`. -/
def execIncHalf (y : Idx) (h : Half) (s : State) : Exec :=
  .next (((s.advance 2).setHalf y h (s.half y h + 1)).setFlags (incFlags s.flags (s.half y h)))

/-- R392: `DEC h`. -/
def execDecHalf (y : Idx) (h : Half) (s : State) : Exec :=
  .next (((s.advance 2).setHalf y h (s.half y h - 1)).setFlags (decFlags s.flags (s.half y h)))

/-- R390: `INC (XY+d)`. -/
def execIncIdxD (y : Idx) (d : Disp) (s : State) : Exec := .next ((s.advance (2 + dispSize d)).incMem (s.eaIdx y d))

/-- R392: `DEC (XY+d)`. -/
def execDecIdxD (y : Idx) (d : Disp) (s : State) : Exec := .next ((s.advance (2 + dispSize d)).decMem (s.eaIdx y d))

/-- R382: `ADD A,h`. -/
def execAddAHalf (y : Idx) (h : Half) (s : State) : Exec := .next ((s.advance 2).addA (s.half y h) false)

/-- R382: `ADD A,(XY+d)`. -/
def execAddAIdxD (y : Idx) (d : Disp) (s : State) : Exec :=
  .next ((s.advance (2 + dispSize d)).addA (s.readByte (s.eaIdx y d)) false)

/-- R383: `ADC A,h`. -/
def execAdcAHalf (y : Idx) (h : Half) (s : State) : Exec := .next ((s.advance 2).addA (s.half y h) s.carry)

/-- R383: `ADC A,(XY+d)`. -/
def execAdcAIdxD (y : Idx) (d : Disp) (s : State) : Exec :=
  .next ((s.advance (2 + dispSize d)).addA (s.readByte (s.eaIdx y d)) s.carry)

/-- R384: `SUB h`. -/
def execSubHalf (y : Idx) (h : Half) (s : State) : Exec := .next ((s.advance 2).subA (s.half y h) false)

/-- R384: `SUB (XY+d)`. -/
def execSubIdxD (y : Idx) (d : Disp) (s : State) : Exec :=
  .next ((s.advance (2 + dispSize d)).subA (s.readByte (s.eaIdx y d)) false)

/-- R385: `SBC A,h`. -/
def execSbcAHalf (y : Idx) (h : Half) (s : State) : Exec := .next ((s.advance 2).subA (s.half y h) s.carry)

/-- R385: `SBC A,(XY+d)`. -/
def execSbcAIdxD (y : Idx) (d : Disp) (s : State) : Exec :=
  .next ((s.advance (2 + dispSize d)).subA (s.readByte (s.eaIdx y d)) s.carry)

/-- R386: `AND h`. -/
def execAndHalf (y : Idx) (h : Half) (s : State) : Exec := .next ((s.advance 2).andA (s.half y h))

/-- R386: `AND (XY+d)`. -/
def execAndIdxD (y : Idx) (d : Disp) (s : State) : Exec :=
  .next ((s.advance (2 + dispSize d)).andA (s.readByte (s.eaIdx y d)))

/-- R387: `XOR h`. -/
def execXorHalf (y : Idx) (h : Half) (s : State) : Exec := .next ((s.advance 2).xorA (s.half y h))

/-- R387: `XOR (XY+d)`. -/
def execXorIdxD (y : Idx) (d : Disp) (s : State) : Exec :=
  .next ((s.advance (2 + dispSize d)).xorA (s.readByte (s.eaIdx y d)))

/-- R388: `OR h`. -/
def execOrHalf (y : Idx) (h : Half) (s : State) : Exec := .next ((s.advance 2).orA (s.half y h))

/-- R388: `OR (XY+d)`. -/
def execOrIdxD (y : Idx) (d : Disp) (s : State) : Exec :=
  .next ((s.advance (2 + dispSize d)).orA (s.readByte (s.eaIdx y d)))

/-- R389: `CP h`. -/
def execCpHalf (y : Idx) (h : Half) (s : State) : Exec := .next ((s.advance 2).cpA (s.half y h))

/-- R389: `CP (XY+d)`. -/
def execCpIdxD (y : Idx) (d : Disp) (s : State) : Exec :=
  .next ((s.advance (2 + dispSize d)).cpA (s.readByte (s.eaIdx y d)))

/-- R393: `TST r`. -/
def execTstR (r : Reg8) (s : State) : Exec := .next ((s.advance 2).tstA (s.reg8 r))

/-- R395: `TST (HL)`. -/
def execTstIndHl (s : State) : Exec := .next ((s.advance 2).tstA (s.readByte (s.pair .hl)))

/-- R394: `TST n`. -/
def execTstN (n : BitVec 8) (s : State) : Exec := .next ((s.advance 3).tstA n)

end Sys2Proof.Machine
end

