-- ==== Sys2Proof/Machine/Bit.lean ====
section
/-! DEFINITION. Bit test, set and reset (R580 to R583). -/

namespace Sys2Proof.Machine

/-- R582, R583: a byte with bit `b` set or cleared. -/
def withBit (v : Byte) (b : BitVec 3) (on : Bool) : Byte :=
  if on then v ||| (1#8 <<< b.toNat) else v &&& ~~~(1#8 <<< b.toNat)

/-- R581: the flags of BIT on an operand. -/
def State.testBit (s : State) (v : Byte) (b : BitVec 3) : State := s.setFlags (s.bitFlags (!v.getLsbD b.toNat))

/-- R581: `BIT b,r`. -/
def execBitBR (b : BitVec 3) (r : Reg8) (s : State) : Exec := .next ((s.advance 2).testBit (s.reg8 r) b)

/-- R581: `BIT b,(HL)`. -/
def execBitBIndHl (b : BitVec 3) (s : State) : Exec := .next ((s.advance 2).testBit (s.readByte (s.pair .hl)) b)

/-- R583: `RES b,r`. -/
def execResBR (b : BitVec 3) (r : Reg8) (s : State) : Exec :=
  .next ((s.advance 2).setReg8 r (withBit (s.reg8 r) b false))

/-- R583: `RES b,(HL)`. -/
def execResBIndHl (b : BitVec 3) (s : State) : Exec :=
  .next ((s.advance 2).writeByte (s.pair .hl) (withBit (s.readByte (s.pair .hl)) b false))

/-- R582: `SET b,r`. -/
def execSetBR (b : BitVec 3) (r : Reg8) (s : State) : Exec :=
  .next ((s.advance 2).setReg8 r (withBit (s.reg8 r) b true))

/-- R582: `SET b,(HL)`. -/
def execSetBIndHl (b : BitVec 3) (s : State) : Exec :=
  .next ((s.advance 2).writeByte (s.pair .hl) (withBit (s.readByte (s.pair .hl)) b true))

/-- R581: `BIT b,(XY+d)`. -/
def execBitBIdxD (b : BitVec 3) (y : Idx) (d : Disp) (s : State) : Exec :=
  .next ((s.advance (3 + dispSize d)).testBit (s.readByte (s.eaIdx y d)) b)

/-- R583: `RES b,(XY+d)`. -/
def execResBIdxD (b : BitVec 3) (y : Idx) (d : Disp) (s : State) : Exec :=
  .next ((s.advance (3 + dispSize d)).writeByte (s.eaIdx y d) (withBit (s.readByte (s.eaIdx y d)) b false))

/-- R582: `SET b,(XY+d)`. -/
def execSetBIdxD (b : BitVec 3) (y : Idx) (d : Disp) (s : State) : Exec :=
  .next ((s.advance (3 + dispSize d)).writeByte (s.eaIdx y d) (withBit (s.readByte (s.eaIdx y d)) b true))

end Sys2Proof.Machine
end

