-- ==== Sys2Proof/Machine/Block.lean ====
section
/-! DEFINITION. Block transfer and block search (R340 to R352). -/

namespace Sys2Proof.Machine

/-- R340: a repeating form leaves PC at its own first byte while it goes on, else moves past its `n` bytes. -/
def State.repeatIf (s : State) (again : Bool) (n : Nat) : State := if again then s else s.advance n

/-- R341, R342: one step of a byte transfer, the pointers moving by `k`. -/
def State.moveByte (s : State) (k : Long) : State :=
  ((((s.writeByte (s.pair .de) (s.readByte (s.pair .hl))).stepPair .de k).stepPair .hl k).setPairLo .bc (s.count - 1)).setFlags
    (transferFlags s.flags (s.count - 1))

/-- R345, R346: one step of a byte search, the pointer moving by `k`. -/
def State.searchByte (s : State) (k : Long) : State :=
  ((s.stepPair .hl k).setPairLo .bc (s.count - 1)).setFlags
    (searchFlags s.flags s.a (s.readByte (s.pair .hl)) (s.count - 1))

/-- R347: a repeating search goes on while the counter is not 0 and no match was found. -/
def State.searchAgain (s : State) : Bool := s.count - 1 != 0 && s.a != s.readByte (s.pair .hl)

/-- R107: both pointers of a word transfer are even. -/
def State.wordAligned (s : State) : Bool := !(s.pair .hl).getLsbD 0 && !(s.pair .de).getLsbD 0

/-- D4: `n` bytes moved one by one at ascending addresses (log 32). -/
def State.copyBytes (s : State) (dst src : Long) : Nat → State
  | 0 => s
  | n + 1 =>
    let t := s.copyBytes dst src n
    t.writeByte (dst + BitVec.ofNat 32 n) (t.readByte (src + BitVec.ofNat 32 n))

/-- R349: the datum of a word transfer moved: whole at even addresses, else byte by byte (log 3, 32). -/
def State.moveDatum (s : State) : State :=
  if s.wordAligned then s.storeW (s.pair .de) (s.loadW (s.pair .hl))
  else s.copyBytes (s.pair .de) (s.pair .hl) (if s.lwEff then 4 else 2)

/-- R349: BC[15:0] after one step. -/
def State.wordCount (s : State) : Word := s.count - lo16 (bytesOf s.lwEff)

/-- R349, R350: one step of a word transfer, upwards or downwards. -/
def State.moveWord (s : State) (down : Bool) : State :=
  let k := if down then -bytesOf s.lwEff else bytesOf s.lwEff
  (((s.moveDatum.stepPair .de k).stepPair .hl k).setPairLo .bc s.wordCount).setFlags (transferFlags s.flags s.wordCount)

/-- R107: `t` where the addresses are even, and as `ODD_BLOCK_WORD` says where one is odd (D4; log 3). -/
def State.unlessOdd (s t : State) : Exec :=
  if s.wordAligned then .next t
  else
    match s.params.oddBlockWord with
    | .refuse => .refused .oddBlockWord
    | .fault => .fault .oddBlockWord
    | .bytewise => .next t

/-- R341: `LDI`. -/
def execLdi (s : State) : Exec := .next ((s.advance 2).moveByte 1)

/-- R345: `CPI`. -/
def execCpi (s : State) : Exec := .next ((s.advance 2).searchByte 1)

/-- R342: `LDD`. -/
def execLdd (s : State) : Exec := .next ((s.advance 2).moveByte (-1))

/-- R346: `CPD`. -/
def execCpd (s : State) : Exec := .next ((s.advance 2).searchByte (-1))

/-- R343: `LDIR`. -/
def execLdir (s : State) : Exec := .next ((s.moveByte 1).repeatIf (s.count - 1 != 0) 2)

/-- R347: `CPIR`. -/
def execCpir (s : State) : Exec := .next ((s.searchByte 1).repeatIf s.searchAgain 2)

/-- R344: `LDDR`. -/
def execLddr (s : State) : Exec := .next ((s.moveByte (-1)).repeatIf (s.count - 1 != 0) 2)

/-- R348: `CPDR`. -/
def execCpdr (s : State) : Exec := .next ((s.searchByte (-1)).repeatIf s.searchAgain 2)

/-- R349: `LDIW`. -/
def execLdiw (s : State) : Exec := s.unlessOdd ((s.advance 2).moveWord false)

/-- R350: `LDDW`. -/
def execLddw (s : State) : Exec := s.unlessOdd ((s.advance 2).moveWord true)

/-- R351: `LDIRW`. -/
def execLdirw (s : State) : Exec := s.unlessOdd ((s.moveWord false).repeatIf (s.wordCount != 0) 2)

/-- R352: `LDDRW`. -/
def execLddrw (s : State) : Exec := s.unlessOdd ((s.moveWord true).repeatIf (s.wordCount != 0) 2)

end Sys2Proof.Machine
end

