-- ==== Sys2Proof/Machine/Control.lean ====
section
/-! DEFINITION. General-purpose arithmetic and CPU control (R420 to R457). -/

namespace Sys2Proof.Machine

/-- R421: the correction DAA adds or subtracts. -/
def daaCorrection (a : Byte) (fl : Flags) : Byte :=
  (if fl.h || decide (a.toNat % 16 > 9) then 0x06 else 0x00) + (if fl.c || decide (a.toNat > 0x99) then 0x60 else 0x00)

/-- R421: A after DAA. -/
def daaResult (a : Byte) (fl : Flags) : Byte := if fl.n then a - daaCorrection a fl else a + daaCorrection a fl

/-- R421: the flags after DAA. -/
def daaFlags (a : Byte) (fl : Flags) : Flags where
  s := (daaResult a fl).msb
  z := daaResult a fl == 0
  h := if fl.n then fl.h && decide (a.toNat % 16 < 6) else decide (a.toNat % 16 > 9)
  pv := evenParity (daaResult a fl)
  n := fl.n
  c := fl.c || decide (a.toNat > 0x99)

/-- R423: the flags of NEG. -/
def negFlags (a : Byte) : Flags where
  s := (0 - a).msb
  z := 0 - a == 0
  h := a.extractLsb' 0 4 != 0
  pv := a == 0x80
  n := true
  c := a != 0

/-- R432: the flags of NEGW. -/
def negwFlags (v : Word) : Flags where
  s := (0 - v).msb
  z := 0 - v == 0
  h := v.extractLsb' 0 4 != 0
  pv := v == 0x8000
  n := true
  c := v != 0

/-- R437: the four significant bits of a mask operand. -/
def maskOf (n : Byte) : Byte := n &&& 0x0F

/-- R430, R440: the interrupt mode `m` put into SR[4:3]. -/
def State.setIm (s : State) (m : BitVec 2) : State := s.srUpdate 0x18 (zext32 (m ++ 0#3))

/-- R428: IEF1 and IEF2 cleared. -/
def State.disable (s : State) : State := (s.srBits 0x20 false).setIef2 false

/-- R429: IEF1 and IEF2 set, and the shadow raised. -/
def State.enable (s : State) : State := ((s.srBits 0x20 true).setIef2 true).setEiShadow true

/-- R438: the inputs of a mask blocked in IER. -/
def State.blockInputs (s : State) (n : Byte) : State := s.ioWrite 0x17 (s.io.ier &&& ~~~maskOf n)

/-- R439: the inputs of a mask unblocked in IER. -/
def State.unblockInputs (s : State) (n : Byte) : State := s.ioWrite 0x17 (s.io.ier ||| maskOf n)

/-- R446: what LDCTL SR,HL hands to SR: in word format H goes to all three upper bytes. -/
def srFromHl (long : Bool) (hl : Long) : Long := if long then hl else hi8 hl ++ hi8 hl ++ hi8 hl ++ lo8 hl

/-- R426: `NOP`. -/
def execNop (s : State) : Exec := .next (s.advance 1)

/-- R421: `DAA`. -/
def execDaa (s : State) : Exec := .next (((s.advance 1).setA (daaResult s.a s.flags)).setFlags (daaFlags s.a s.flags))

/-- R422: `CPL`. -/
def execCpl (s : State) : Exec := .next (((s.advance 1).setA (~~~s.a)).setFlags { s.flags with h := true, n := true })

/-- R425: `SCF`. -/
def execScf (s : State) : Exec := .next ((s.advance 1).setFlags { s.flags with h := false, n := false, c := true })

/-- R424: `CCF`. -/
def execCcf (s : State) : Exec :=
  .next ((s.advance 1).setFlags { s.flags with h := s.flags.c, n := false, c := !s.flags.c })

/-- R427: `HALT`. -/
def execHalt (s : State) : Exec := .next ((s.advance 1).setHalted true)

/-- R428: `DI`. -/
def execDi (s : State) : Exec := .next ((s.advance 1).disable)

/-- R429: `EI`. -/
def execEi (s : State) : Exec := .next ((s.advance 1).enable)

/-- R431: `CPLW`. -/
def execCplw (s : State) : Exec :=
  .next (((s.advance 2).setPairLo .hl (~~~lo16 (s.pair .hl))).setFlags { s.flags with h := true, n := true })

/-- R442: `LDCTL SR,A`. -/
def execLdctlSrA (s : State) : Exec := .next ((s.advance 2).srWrite 0xFFFFFF00 (s.a ++ s.a ++ s.a ++ 0#8))

/-- R443: `LDCTL SR,n`. -/
def execLdctlSrN (n : BitVec 8) (s : State) : Exec := .next ((s.advance 3).srWrite 0xFFFFFF00 (n ++ n ++ n ++ 0#8))

/-- R457: `MTEST`. -/
def execMtest (s : State) : Exec := .next ((s.advance 2).setFlags { s.flags with s := s.xm, z := s.lw, c := s.lck })

/-- R447: `LDCTL A,XSR`. -/
def execLdctlAXsr (s : State) : Exec := .next ((s.advance 2).setA (s.sr.extractLsb' 16 8))

/-- R447: `LDCTL A,YSR`. -/
def execLdctlAYsr (s : State) : Exec := .next ((s.advance 2).setA (s.sr.extractLsb' 24 8))

/-- R448: `LDCTL XSR,A`. -/
def execLdctlXsrA (s : State) : Exec := .next ((s.advance 2).srWrite 0x00FF0000 (0#8 ++ s.a ++ 0#16))

/-- R448: `LDCTL YSR,A`. -/
def execLdctlYsrA (s : State) : Exec := .next ((s.advance 2).srWrite 0xFF000000 (s.a ++ 0#24))

/-- R449: `LDCTL XSR,n`. -/
def execLdctlXsrN (n : BitVec 8) (s : State) : Exec := .next ((s.advance 3).srWrite 0x00FF0000 (0#8 ++ n ++ 0#16))

/-- R449: `LDCTL YSR,n`. -/
def execLdctlYsrN (n : BitVec 8) (s : State) : Exec := .next ((s.advance 3).srWrite 0xFF000000 (n ++ 0#24))

/-- R438: `DI n`. -/
def execDiN (n : BitVec 8) (s : State) : Exec :=
  if n.getLsbD 0 then .next (((s.advance 3).blockInputs n).disable) else .next ((s.advance 3).blockInputs n)

/-- R439: `EI n`. -/
def execEiN (n : BitVec 8) (s : State) : Exec :=
  if n.getLsbD 0 then .next (((s.advance 3).unblockInputs n).enable) else .next ((s.advance 3).unblockInputs n)

/-- R454: `SETC LW`. -/
def execSetcLw (s : State) : Exec := .next ((s.advance 2).srBits 0x40 true)

/-- R455: `RESC LW`. -/
def execRescLw (s : State) : Exec := .next ((s.advance 2).srBits 0x40 false)

/-- R451: `SETC XM`. -/
def execSetcXm (s : State) : Exec := .next ((s.advance 2).srBits 0x80 true)

/-- R423: `NEG`. -/
def execNeg (s : State) : Exec := .next (((s.advance 2).setA (0 - s.a)).setFlags (negFlags s.a))

/-- R432: `NEGW`. -/
def execNegw (s : State) : Exec :=
  .next (((s.advance 2).setPairLo .hl (0 - lo16 (s.pair .hl))).setFlags (negwFlags (lo16 (s.pair .hl))))

/-- R430: `IM 0`. -/
def execIm0 (s : State) : Exec := .next ((s.advance 2).setIm 0)

/-- R430: `IM 1`. -/
def execIm1 (s : State) : Exec := .next ((s.advance 2).setIm 1)

/-- R430: `IM 2`. -/
def execIm2 (s : State) : Exec := .next ((s.advance 2).setIm 2)

/-- R440: `IM 3`. -/
def execIm3 (s : State) : Exec := .next ((s.advance 2).setIm 3)

/-- R434: `EXTS`. -/
def execExts (s : State) : Exec := .next ((s.advance 2).wrPair .hl (sext32 s.a))

/-- R435: `EXTSW`. -/
def execExtsw (s : State) : Exec := .next ((s.advance 2).setPair .hl (sext32 (lo16 (s.pair .hl))))

/-- R436: `SLP`. -/
def execSlp (s : State) : Exec :=
  if s.stby then .next ((s.advance 2).setStandby true) else .next ((s.advance 2).setHalted true)

/-- R445: `LDCTL HL,SR`. -/
def execLdctlHlSr (s : State) : Exec := .next ((s.advance 2).wrPair .hl s.sr)

/-- R446: `LDCTL SR,HL`. -/
def execLdctlSrHl (s : State) : Exec := .next ((s.advance 2).srWrite 0xFFFFFF01 (srFromHl s.lwEff (s.pair .hl)))

/-- R456: `BTEST`. -/
def execBtest (s : State) : Exec :=
  .next ((s.advance 2).setFlags { s.flags with s := s.ixp, z := s.iyp, pv := s.afp, c := s.alt })

/-- R447: `LDCTL A,DSR`. -/
def execLdctlADsr (s : State) : Exec := .next ((s.advance 2).setA (s.sr.extractLsb' 8 8))

/-- R448: `LDCTL DSR,A`. -/
def execLdctlDsrA (s : State) : Exec := .next ((s.advance 2).srWrite 0x0000FF00 (0#16 ++ s.a ++ 0#8))

/-- R449: `LDCTL DSR,n`. -/
def execLdctlDsrN (n : BitVec 8) (s : State) : Exec := .next ((s.advance 3).srWrite 0x0000FF00 (0#16 ++ n ++ 0#8))

/-- R452: `SETC LCK`. -/
def execSetcLck (s : State) : Exec := .next ((s.advance 2).srBits 0x2 true)

/-- R453: `RESC LCK`. -/
def execRescLck (s : State) : Exec := .next ((s.advance 2).srBits 0x2 false)

end Sys2Proof.Machine
end

