-- ==== Sys2Proof/Machine/Ddir.lean ====
section
/-! DEFINITION. The decoder directives (R460 to R468): a later one replaces an earlier (D18). -/

namespace Sys2Proof.Machine

/-- R461: `DDIR W`. -/
def execDdirW (s : State) : Exec := .next ((s.advance 2).setDdir (some ⟨some false, .zero⟩))

/-- R462: `DDIR IB,W`. -/
def execDdirIbW (s : State) : Exec := .next ((s.advance 2).setDdir (some ⟨some false, .ib⟩))

/-- R463: `DDIR IW,W`. -/
def execDdirIwW (s : State) : Exec := .next ((s.advance 2).setDdir (some ⟨some false, .iw⟩))

/-- R464: `DDIR IB`. -/
def execDdirIb (s : State) : Exec := .next ((s.advance 2).setDdir (some ⟨none, .ib⟩))

/-- R465: `DDIR LW`. -/
def execDdirLw (s : State) : Exec := .next ((s.advance 2).setDdir (some ⟨some true, .zero⟩))

/-- R466: `DDIR IB,LW`. -/
def execDdirIbLw (s : State) : Exec := .next ((s.advance 2).setDdir (some ⟨some true, .ib⟩))

/-- R467: `DDIR IW,LW`. -/
def execDdirIwLw (s : State) : Exec := .next ((s.advance 2).setDdir (some ⟨some true, .iw⟩))

/-- R468: `DDIR IW`. -/
def execDdirIw (s : State) : Exec := .next ((s.advance 2).setDdir (some ⟨none, .iw⟩))

end Sys2Proof.Machine
end

