-- ==== Sys2Proof/Machine/Exchange.lean ====
section
/-! DEFINITION. The set switches and the exchanges of values (R320 to R339). -/

namespace Sys2Proof.Machine

/-- R323, R334, R335: the exchange of two pairs, W bits. -/
def State.swapPairs (s : State) (p q : Pair) : State := (s.wrPair p (s.pair q)).wrPair q (s.pair p)

/-- R328: the exchange of a pair and its primed twin, W bits. -/
def State.swapPairAlt (s : State) (p : Pair) : State := (s.wrPair p (s.pairAlt p)).wrPairAlt p (s.pair p)

/-- R329: the exchange of an index register and its primed twin, W bits. -/
def State.swapIdxAlt (s : State) (y : Idx) : State := (s.wrIdx y (s.idxAlt y)).wrIdxAlt y (s.idx y)

/-- R336: the exchange of a pair and an index register, W bits. -/
def State.swapPairIdx (s : State) (p : Pair) (y : Idx) : State := (s.wrPair p (s.idx y)).wrIdx y (s.pair p)

/-- R338: the two halves of a long word exchanged. -/
def swapHalves (v : Long) : Long := lo16 v ++ ext16 v

/-- R322: `EX AF,AF'`. -/
def execExAfAfAlt (s : State) : Exec := .next ((s.advance 1).srToggle 0x1)

/-- R321: `EXX`. -/
def execExx (s : State) : Exec := .next ((s.advance 1).srToggle 0x100)

/-- R324: `EX (SP),HL`. -/
def execExIndSpHl (s : State) : Exec := .next (((s.advance 1).storeW s.sp (s.pair .hl)).wrPair .hl (s.loadW s.sp))

/-- R323: `EX DE,HL`. -/
def execExDeHl (s : State) : Exec := .next ((s.advance 1).swapPairs .de .hl)

/-- R327: `EX r,r'`. -/
def execExRRAlt (r : Reg8) (s : State) : Exec := .next (((s.advance 2).setReg8 r (s.reg8Alt r)).setReg8Alt r (s.reg8 r))

/-- R339: `SWAP XY`. -/
def execSwapXy (y : Idx) (s : State) : Exec := .next ((s.advance 2).setIdx y (swapHalves (s.idx y)))

/-- R332: `EXXX`. -/
def execExxx (s : State) : Exec := .next ((s.advance 2).srToggle 0x10000)

/-- R333: `EXXY`. -/
def execExxy (s : State) : Exec := .next ((s.advance 2).srToggle 0x1000000)

/-- R325: `EX (SP),XY`. -/
def execExIndSpXy (y : Idx) (s : State) : Exec := .next (((s.advance 2).storeW s.sp (s.idx y)).wrIdx y (s.loadW s.sp))

/-- R336: `EX BC,IX`. -/
def execExBcIx (s : State) : Exec := .next ((s.advance 2).swapPairIdx .bc .ix)

/-- R336: `EX BC,IY`. -/
def execExBcIy (s : State) : Exec := .next ((s.advance 2).swapPairIdx .bc .iy)

/-- R336: `EX DE,IX`. -/
def execExDeIx (s : State) : Exec := .next ((s.advance 2).swapPairIdx .de .ix)

/-- R336: `EX DE,IY`. -/
def execExDeIy (s : State) : Exec := .next ((s.advance 2).swapPairIdx .de .iy)

/-- R336: `EX HL,IX`. -/
def execExHlIx (s : State) : Exec := .next ((s.advance 2).swapPairIdx .hl .ix)

/-- R336: `EX HL,IY`. -/
def execExHlIy (s : State) : Exec := .next ((s.advance 2).swapPairIdx .hl .iy)

/-- R337: `EX IX,IY`. -/
def execExIxIy (s : State) : Exec := .next (((s.advance 2).wrIdx .ix (s.idx .iy)).wrIdx .iy (s.idx .ix))

/-- R334: `EX BC,DE`. -/
def execExBcDe (s : State) : Exec := .next ((s.advance 2).swapPairs .bc .de)

/-- R335: `EX BC,HL`. -/
def execExBcHl (s : State) : Exec := .next ((s.advance 2).swapPairs .bc .hl)

/-- R326: `EX A,r`. -/
def execExAR (r : Reg8) (s : State) : Exec := .next (((s.advance 2).setA (s.reg8 r)).setReg8 r s.a)

/-- R330: `EX A,(HL)`. -/
def execExAIndHl (s : State) : Exec := .next (((s.advance 2).writeByte (s.pair .hl) s.a).setA (s.readByte (s.pair .hl)))

/-- R338: `SWAP p`. -/
def execSwapPp (pp : Pair) (s : State) : Exec := .next ((s.advance 2).setPair pp (swapHalves (s.pair pp)))

/-- R331: `EXALL`. -/
def execExall (s : State) : Exec := .next ((s.advance 2).srToggle 0x1010100)

/-- R328: `EX BC,BC'`. -/
def execExBcBcAlt (s : State) : Exec := .next ((s.advance 3).swapPairAlt .bc)

/-- R328: `EX DE,DE'`. -/
def execExDeDeAlt (s : State) : Exec := .next ((s.advance 3).swapPairAlt .de)

/-- R328: `EX HL,HL'`. -/
def execExHlHlAlt (s : State) : Exec := .next ((s.advance 3).swapPairAlt .hl)

/-- R329: `EX IX,IX'`. -/
def execExIxIxAlt (s : State) : Exec := .next ((s.advance 3).swapIdxAlt .ix)

/-- R329: `EX IY,IY'`. -/
def execExIyIyAlt (s : State) : Exec := .next ((s.advance 3).swapIdxAlt .iy)

end Sys2Proof.Machine
end

