-- ==== Sys2Proof/Machine/InternalIo.lean ====
section
/-! DEFINITION. Input and output on the internal space (R690 to R698). -/

namespace Sys2Proof.Machine

/-- R695, R697: one step of OTIM and OTDM: HL moves by `k`, C by `j`. -/
def State.otStep (s : State) (k : Long) (j : Byte) : State :=
  ((((s.ioWrite (s.reg8 .c) (s.readByte (s.pair .hl))).stepPair .hl k).setReg8 .c (s.reg8 .c + j)).setReg8 .b
    (s.reg8 .b - 1)).setFlags (s.otimFlags (s.reg8 .b - 1 == 0))

/-- R691: `IN0 r,(n)`. -/
def execIn0RPortN (r : Reg8) (n : BitVec 8) (s : State) : Exec :=
  .next (((s.advance 3).setReg8 r (s.ioRead n)).setFlags (inputFlags8 s.flags (s.ioRead n)))

/-- R692: `IN0 (n)`. -/
def execIn0PortN (n : BitVec 8) (s : State) : Exec := .next ((s.advance 3).setFlags (inputFlags8 s.flags (s.ioRead n)))

/-- R693: `OUT0 (n),r`. -/
def execOut0PortNR (n : BitVec 8) (r : Reg8) (s : State) : Exec := .next ((s.advance 3).ioWrite n (s.reg8 r))

/-- R694: `TSTIO n`. -/
def execTstioN (n : BitVec 8) (s : State) : Exec :=
  .next ((s.advance 3).setFlags (logicFlags8 true (s.ioRead (s.reg8 .c) &&& n)))

/-- R695: `OTIM`. -/
def execOtim (s : State) : Exec := .next ((s.advance 2).otStep 1 1)

/-- R697: `OTDM`. -/
def execOtdm (s : State) : Exec := .next ((s.advance 2).otStep (-1) (-1))

/-- R696: `OTIMR`. -/
def execOtimr (s : State) : Exec := .next ((s.otStep 1 1).repeatIf (s.reg8 .b - 1 != 0) 2)

/-- R698: `OTDMR`. -/
def execOtdmr (s : State) : Exec := .next ((s.otStep (-1) (-1)).repeatIf (s.reg8 .b - 1 != 0) 2)

end Sys2Proof.Machine
end

