-- ==== Sys2Proof/Machine/Io.lean ====
section
/-! DEFINITION. Input and output on the external space (R650 to R683). -/

namespace Sys2Proof.Machine

/-- R655, R657: one step of a byte block input, HL moving by `k`: the port is BC before B counts. -/
def State.inStep (s : State) (k : Long) : State :=
  (((((s.afterPortRead false (s.pair .bc)).writeByte (s.pair .hl) (s.portByte (s.pair .bc))).stepPair .hl k).setReg8 .b
    (s.reg8 .b - 1))).setFlags (s.blockIoFlags (s.reg8 .b - 1 == 0))

/-- R659, R661: one step of a byte block output, HL moving by `k`: the port is BC after B counted. -/
def State.outStep (s : State) (k : Long) : State :=
  let t := s.setReg8 .b (s.reg8 .b - 1)
  ((t.portWrite false (t.pair .bc) ((s.readByte (s.pair .hl)).setWidth 16)).stepPair .hl k).setFlags
    (s.blockIoFlags (s.reg8 .b - 1 == 0))

/-- R673, R675: one step of a word block input, HL moving by `k`. -/
def State.inWordStep (s : State) (k : Long) : State :=
  ((((s.afterPortRead true (s.pair .de)).writeWord (s.pair .hl) (s.portWord (s.pair .de))).setPairLo .bc
    (s.count - 1)).stepPair .hl k).setFlags (s.blockIoFlags (s.count - 1 == 0))

/-- R680, R682: one step of a word block output, HL moving by `k`. -/
def State.outWordStep (s : State) (k : Long) : State :=
  (((s.portWrite true (s.pair .de) (s.readWord (s.pair .hl))).setPairLo .bc (s.count - 1)).stepPair .hl k).setFlags
    (s.blockIoFlags (s.count - 1 == 0))

/-- R671: INW: a pair's low word takes the word of port (C), with the input flags. -/
def State.inPair (s : State) (p : Pair) : State :=
  ((s.afterPortRead true (s.pair .bc)).setPairLo p (s.portWord (s.pair .bc))).setFlags
    (inputFlags16 s.flags (s.portWord (s.pair .bc)))

/-- R677: OUTW: port (C) takes a pair's low word. -/
def State.outPair (s : State) (p : Pair) : State := s.portWrite true (s.pair .bc) (lo16 (s.pair p))

/-- R653: `OUT (n),A`. -/
def execOutPortNA (n : BitVec 8) (s : State) : Exec :=
  .next ((s.advance 2).portWrite false (zext32 (s.a ++ n)) (s.a.setWidth 16))

/-- R651: `IN A,(n)`. -/
def execInAPortN (n : BitVec 8) (s : State) : Exec :=
  .next (((s.advance 2).afterPortRead false (zext32 (s.a ++ n))).setA (s.portByte (zext32 (s.a ++ n))))

/-- R671: `INW BC,(C)`. -/
def execInwBcPortC (s : State) : Exec := .next ((s.advance 2).inPair .bc)

/-- R671: `INW DE,(C)`. -/
def execInwDePortC (s : State) : Exec := .next ((s.advance 2).inPair .de)

/-- R671: `INW HL,(C)`. -/
def execInwHlPortC (s : State) : Exec := .next ((s.advance 2).inPair .hl)

/-- R677: `OUTW (C),BC`. -/
def execOutwPortCBc (s : State) : Exec := .next ((s.advance 2).outPair .bc)

/-- R677: `OUTW (C),DE`. -/
def execOutwPortCDe (s : State) : Exec := .next ((s.advance 2).outPair .de)

/-- R677: `OUTW (C),HL`. -/
def execOutwPortCHl (s : State) : Exec := .next ((s.advance 2).outPair .hl)

/-- R678: `OUTW (C),nn`. -/
def execOutwPortCNn (nn : Imm) (s : State) : Exec :=
  .next ((s.advance (2 + immSize nn)).portWrite true (s.pair .bc) (lo16 (immValue nn)))

/-- R679: `OUTAW (nn),HL`. -/
def execOutawDirNnHl (nn : Imm) (s : State) : Exec :=
  .next ((s.advance (2 + immSize nn)).portWrite true (immValue nn) (lo16 (s.pair .hl)))

/-- R672: `INAW HL,(nn)`. -/
def execInawHlDirNn (nn : Imm) (s : State) : Exec :=
  .next (((s.advance (2 + immSize nn)).afterPortRead true (immValue nn)).setPairLo .hl (s.portWord (immValue nn)))

/-- R652: `IN r,(C)`. -/
def execInRPortC (r : Reg8) (s : State) : Exec :=
  .next ((((s.advance 2).afterPortRead false (s.pair .bc)).setReg8 r (s.portByte (s.pair .bc))).setFlags
    (inputFlags8 s.flags (s.portByte (s.pair .bc))))

/-- R654: `OUT (C),r`. -/
def execOutPortCR (r : Reg8) (s : State) : Exec :=
  .next ((s.advance 2).portWrite false (s.pair .bc) ((s.reg8 r).setWidth 16))

/-- R666: `OUT (C),n`. -/
def execOutPortCN (n : BitVec 8) (s : State) : Exec :=
  .next ((s.advance 3).portWrite false (s.pair .bc) (n.setWidth 16))

/-- R655: `INI`. -/
def execIni (s : State) : Exec := .next ((s.advance 2).inStep 1)

/-- R659: `OUTI`. -/
def execOuti (s : State) : Exec := .next ((s.advance 2).outStep 1)

/-- R657: `IND`. -/
def execInd (s : State) : Exec := .next ((s.advance 2).inStep (-1))

/-- R661: `OUTD`. -/
def execOutd (s : State) : Exec := .next ((s.advance 2).outStep (-1))

/-- R656: `INIR`. -/
def execInir (s : State) : Exec := .next ((s.inStep 1).repeatIf (s.reg8 .b - 1 != 0) 2)

/-- R660: `OTIR`. -/
def execOtir (s : State) : Exec := .next ((s.outStep 1).repeatIf (s.reg8 .b - 1 != 0) 2)

/-- R658: `INDR`. -/
def execIndr (s : State) : Exec := .next ((s.inStep (-1)).repeatIf (s.reg8 .b - 1 != 0) 2)

/-- R662: `OTDR`. -/
def execOtdr (s : State) : Exec := .next ((s.outStep (-1)).repeatIf (s.reg8 .b - 1 != 0) 2)

/-- R667: `OUTA (nn),A`. -/
def execOutaDirNnA (nn : Imm) (s : State) : Exec :=
  .next ((s.advance (2 + immSize nn)).portWrite false (immValue nn) (s.a.setWidth 16))

/-- R665: `INA A,(nn)`. -/
def execInaADirNn (nn : Imm) (s : State) : Exec :=
  .next (((s.advance (2 + immSize nn)).afterPortRead false (immValue nn)).setA (s.portByte (immValue nn)))

/-- R673: `INIW`. -/
def execIniw (s : State) : Exec := .next ((s.advance 2).inWordStep 2)

/-- R675: `INDW`. -/
def execIndw (s : State) : Exec := .next ((s.advance 2).inWordStep (-2))

/-- R674: `INIRW`. -/
def execInirw (s : State) : Exec := .next ((s.inWordStep 2).repeatIf (s.count - 1 != 0) 2)

/-- R676: `INDRW`. -/
def execIndrw (s : State) : Exec := .next ((s.inWordStep (-2)).repeatIf (s.count - 1 != 0) 2)

/-- R680: `OUTIW`. -/
def execOutiw (s : State) : Exec := .next ((s.advance 2).outWordStep 2)

/-- R682: `OUTDW`. -/
def execOutdw (s : State) : Exec := .next ((s.advance 2).outWordStep (-2))

/-- R681: `OTIRW`. -/
def execOtirw (s : State) : Exec := .next ((s.outWordStep 2).repeatIf (s.count - 1 != 0) 2)

/-- R683: `OTDRW`. -/
def execOtdrw (s : State) : Exec := .next ((s.outWordStep (-2)).repeatIf (s.count - 1 != 0) 2)

end Sys2Proof.Machine
end

