-- ==== Sys2Proof/Machine/Jump.lean ====
section
/-! DEFINITION. Jumps, calls, returns and restarts (R600 to R634). -/

namespace Sys2Proof.Machine

/-- R600: `next`: the address after an instruction of `n` bytes. -/
def State.nextPc (s : State) (n : Nat) : Long := (s.advance n).pc

/-- R602, R606: a jump of `n` bytes to `t`, taken when `take` holds. -/
def State.jumpIf (s : State) (take : Bool) (n : Nat) (t : Long) : State := if take then s.setPc t else s.advance n

/-- R623, R630: a call of `n` bytes to `t`, taken when `take` holds. -/
def State.callIf (s : State) (take : Bool) (n : Nat) (t : Long) : State :=
  if take then s.call (s.nextPc n) t else s.advance n

/-- R607: B less one. -/
def State.countB (s : State) : Byte := s.reg8 .b - 1

/-- R607: `DJNZ e`. -/
def execDjnzE8 (e : BitVec 8) (s : State) : Exec :=
  .next ((s.setReg8 .b s.countB).jumpIf (s.countB != 0) 2 (s.nextPc 2 + sext32 e))

/-- R605: `JR e`. -/
def execJrE8 (e : BitVec 8) (s : State) : Exec := .next (s.setPc (s.nextPc 2 + sext32 e))

/-- R606: `JR c,e`. -/
def execJrCcE8 (cc : Cond) (e : BitVec 8) (s : State) : Exec := .next (s.jumpIf (s.cond cc) 2 (s.nextPc 2 + sext32 e))

/-- R625: `RET c`. -/
def execRetCc (cc : Cond) (s : State) : Exec := if s.cond cc then .next (s.popPc) else .next ((s.advance 1))

/-- R602: `JP c,nn`. -/
def execJpCcNn (cc : Cond) (nn : Imm) (s : State) : Exec := .next (s.jumpIf (s.cond cc) (1 + immSize nn) (immValue nn))

/-- R601: `JP nn`. -/
def execJpNn (nn : Imm) (s : State) : Exec := .next (s.setPc (immValue nn))

/-- R623: `CALL c,nn`. -/
def execCallCcNn (cc : Cond) (nn : Imm) (s : State) : Exec :=
  .next (s.callIf (s.cond cc) (1 + immSize nn) (immValue nn))

/-- R628: `RST t`. -/
def execRstP (p : BitVec 3) (s : State) : Exec := .next (s.call (s.nextPc 1) (zext32 (p ++ 0#3)))

/-- R624: `RET`. -/
def execRet (s : State) : Exec := .next (s.popPc)

/-- R622: `CALL nn`. -/
def execCallNn (nn : Imm) (s : State) : Exec := .next (s.call (s.nextPc (1 + immSize nn)) (immValue nn))

/-- R603: `JP (HL)`. -/
def execJpIndHl (s : State) : Exec := .next (s.setPc (s.pair .hl))

/-- R617: `DJNZ ee`. -/
def execDjnzE16 (e : BitVec 16) (s : State) : Exec :=
  .next ((s.setReg8 .b s.countB).jumpIf (s.countB != 0) 4 (s.nextPc 4 + sext32 e))

/-- R618: `DJNZ eee`. -/
def execDjnzE24 (e : BitVec 24) (s : State) : Exec :=
  .next ((s.setReg8 .b s.countB).jumpIf (s.countB != 0) 5 (s.nextPc 5 + sext32 e))

/-- R613: `JR ee`. -/
def execJrE16 (e : BitVec 16) (s : State) : Exec := .next (s.setPc (s.nextPc 4 + sext32 e))

/-- R615: `JR eee`. -/
def execJrE24 (e : BitVec 24) (s : State) : Exec := .next (s.setPc (s.nextPc 5 + sext32 e))

/-- R614: `JR c,ee`. -/
def execJrCcE16 (cc : Cond) (e : BitVec 16) (s : State) : Exec := .next (s.jumpIf (s.cond cc) 4 (s.nextPc 4 + sext32 e))

/-- R616: `JR c,eee`. -/
def execJrCcE24 (cc : Cond) (e : BitVec 24) (s : State) : Exec := .next (s.jumpIf (s.cond cc) 5 (s.nextPc 5 + sext32 e))

/-- R632: `CALR c,ee`. -/
def execCalrCcE16 (cc : Cond) (e : BitVec 16) (s : State) : Exec :=
  .next (s.callIf (s.cond cc) 4 (s.nextPc 4 + sext32 e))

/-- R634: `CALR c,eee`. -/
def execCalrCcE24 (cc : Cond) (e : BitVec 24) (s : State) : Exec :=
  .next (s.callIf (s.cond cc) 5 (s.nextPc 5 + sext32 e))

/-- R631: `CALR ee`. -/
def execCalrE16 (e : BitVec 16) (s : State) : Exec := .next (s.call (s.nextPc 4) (s.nextPc 4 + sext32 e))

/-- R633: `CALR eee`. -/
def execCalrE24 (e : BitVec 24) (s : State) : Exec := .next (s.call (s.nextPc 5) (s.nextPc 5 + sext32 e))

/-- R604: `JP (XY)`. -/
def execJpIndXy (y : Idx) (s : State) : Exec := .next (s.setPc (s.idx y))

/-- R627: `RETN`. -/
def execRetn (s : State) : Exec := .next (s.returnNmi)

/-- R626: `RETI`. -/
def execReti (s : State) : Exec := .next (s.popPc)

/-- R630: `CALR c,e`. -/
def execCalrCcE8 (cc : Cond) (e : BitVec 8) (s : State) : Exec := .next (s.callIf (s.cond cc) 3 (s.nextPc 3 + sext32 e))

/-- R629: `CALR e`. -/
def execCalrE8 (e : BitVec 8) (s : State) : Exec := .next (s.call (s.nextPc 3) (s.nextPc 3 + sext32 e))

end Sys2Proof.Machine
end

