-- ==== Sys2Proof/Machine/Load16.lean ====
section
/-! DEFINITION. The 16- and 32-bit load group, PUSH and POP (R250 to R294). -/

namespace Sys2Proof.Machine

/-- R293: what POP SR hands to SR[31:8] and SR[6:0]: in word format the high byte of the word goes to all three bytes. -/
def popSrValue (long : Bool) (v : Long) : Long := if long then v else hi8 v ++ hi8 v ++ hi8 v ++ lo8 v

/-- R253: `LD p,nn`. -/
def execLdDdNn (dd : Pair4) (nn : Imm) (s : State) : Exec :=
  .next ((s.advance (1 + immSize nn)).wrPair4 dd (immValue nn))

/-- R258: `LD (nn),HL`. -/
def execLdDirNnHl (nn : Imm) (s : State) : Exec :=
  .next ((s.advance (1 + immSize nn)).storeW (immValue nn) (s.pair .hl))

/-- R255: `LD HL,(nn)`. -/
def execLdHlDirNn (nn : Imm) (s : State) : Exec :=
  .next ((s.advance (1 + immSize nn)).wrPair .hl (s.loadW (immValue nn)))

/-- R289: `POP q`. -/
def execPopQq (qq : Pair) (s : State) : Exec := .next (((s.advance 1).dropped s.lwEff).wrPair qq (s.popped s.lwEff))

/-- R290: `POP AF`. -/
def execPopAf (s : State) : Exec :=
  .next ((((s.advance 1).dropped s.lwEff).setA (hi8 (s.popped s.lwEff))).setF (lo8 (s.popped s.lwEff)))

/-- R286: `PUSH q`. -/
def execPushQq (qq : Pair) (s : State) : Exec := .next ((s.advance 1).push s.lwEff (s.pair qq))

/-- R287: `PUSH AF`. -/
def execPushAf (s : State) : Exec := .next ((s.advance 1).push s.lwEff (zext32 (s.a ++ s.f)))

/-- R261: `LD SP,HL`. -/
def execLdSpHl (s : State) : Exec := .next ((s.advance 1).wrPair4 .sp (s.pair .hl))

/-- R270: `LD (p),XY`. -/
def execLdIndPpXy (pp : Pair) (y : Idx) (s : State) : Exec := .next ((s.advance 2).storeW (s.pair pp) (s.idx y))

/-- R271: `LD XY,(p)`. -/
def execLdXyIndPp (y : Idx) (pp : Pair) (s : State) : Exec := .next ((s.advance 2).wrIdx y (s.loadW (s.pair pp)))

/-- R267: `LD XY,p`. -/
def execLdXyPp (y : Idx) (pp : Pair) (s : State) : Exec := .next ((s.advance 2).wrIdx y (s.pair pp))

/-- R268: `LD p,XY`. -/
def execLdPpXy (pp : Pair) (y : Idx) (s : State) : Exec := .next ((s.advance 2).wrPair pp (s.idx y))

/-- R264: `LD p,(u)`. -/
def execLdPpIndUu (pp : Pair) (uu : Pair) (s : State) : Exec := .next ((s.advance 2).wrPair pp (s.loadW (s.pair uu)))

/-- R265: `LD (p),u`. -/
def execLdIndPpUu (pp : Pair) (uu : Pair) (s : State) : Exec := .next ((s.advance 2).storeW (s.pair pp) (s.pair uu))

/-- R266: `LD p,BC`. -/
def execLdPpBc (pp : Pair) (s : State) : Exec := .next ((s.advance 2).wrPair pp (s.pair .bc))

/-- R266: `LD p,DE`. -/
def execLdPpDe (pp : Pair) (s : State) : Exec := .next ((s.advance 2).wrPair pp (s.pair .de))

/-- R266: `LD p,HL`. -/
def execLdPpHl (pp : Pair) (s : State) : Exec := .next ((s.advance 2).wrPair pp (s.pair .hl))

/-- R254: `LD XY,nn`. -/
def execLdXyNn (y : Idx) (nn : Imm) (s : State) : Exec := .next ((s.advance (2 + immSize nn)).wrIdx y (immValue nn))

/-- R260: `LD (nn),XY`. -/
def execLdDirNnXy (nn : Imm) (y : Idx) (s : State) : Exec :=
  .next ((s.advance (2 + immSize nn)).storeW (immValue nn) (s.idx y))

/-- R257: `LD XY,(nn)`. -/
def execLdXyDirNn (y : Idx) (nn : Imm) (s : State) : Exec :=
  .next ((s.advance (2 + immSize nn)).wrIdx y (s.loadW (immValue nn)))

/-- R269: `LD IX,IY`. -/
def execLdIxIy (s : State) : Exec := .next ((s.advance 2).wrIdx .ix (s.idx .iy))

/-- R269: `LD IY,IX`. -/
def execLdIyIx (s : State) : Exec := .next ((s.advance 2).wrIdx .iy (s.idx .ix))

/-- R279: `LD I,HL`. -/
def execLdIHl (s : State) : Exec := .next ((s.advance 2).setIreg (wrW s.lwEff s.ireg (s.pair .hl)))

/-- R280: `LD HL,I`. -/
def execLdHlI (s : State) : Exec := .next ((s.advance 2).wrPair .hl s.ireg)

/-- R291: `POP XY`. -/
def execPopXy (y : Idx) (s : State) : Exec := .next (((s.advance 2).dropped s.lwEff).wrIdx y (s.popped s.lwEff))

/-- R288: `PUSH XY`. -/
def execPushXy (y : Idx) (s : State) : Exec := .next ((s.advance 2).push s.lwEff (s.idx y))

/-- R262: `LD SP,XY`. -/
def execLdSpXy (y : Idx) (s : State) : Exec := .next ((s.advance 2).wrPair4 .sp (s.idx y))

/-- R294: `PUSH nn`. -/
def execPushNn (nn : Imm) (s : State) : Exec := .next ((s.advance (2 + immSize nn)).push s.lwEff (immValue nn))

/-- R274: `LD p,(SP+d)`. -/
def execLdPpSpD (pp : Pair) (d : Disp) (s : State) : Exec :=
  .next ((s.advance (3 + dispSize d)).wrPair pp (s.loadW (s.eaSp d)))

/-- R275: `LD XY,(SP+d)`. -/
def execLdXySpD (y : Idx) (d : Disp) (s : State) : Exec :=
  .next ((s.advance (3 + dispSize d)).wrIdx y (s.loadW (s.eaSp d)))

/-- R272: `LD p,(XY+d)`. -/
def execLdPpIdxD (pp : Pair) (y : Idx) (d : Disp) (s : State) : Exec :=
  .next ((s.advance (3 + dispSize d)).wrPair pp (s.loadW (s.eaIdx y d)))

/-- R273: `LD YX,(XY+d)`. -/
def execLdYxIdxD (y : Idx) (d : Disp) (s : State) : Exec :=
  .next ((s.advance (3 + dispSize d)).wrIdx (otherIdx y) (s.loadW (s.eaIdx y d)))

/-- R278: `LD (SP+d),p`. -/
def execLdSpDPp (d : Disp) (pp : Pair) (s : State) : Exec :=
  .next ((s.advance (3 + dispSize d)).storeW (s.eaSp d) (s.pair pp))

/-- R278: `LD (SP+d),XY`. -/
def execLdSpDXy (d : Disp) (y : Idx) (s : State) : Exec :=
  .next ((s.advance (3 + dispSize d)).storeW (s.eaSp d) (s.idx y))

/-- R276: `LD (XY+d),p`. -/
def execLdIdxDPp (y : Idx) (d : Disp) (pp : Pair) (s : State) : Exec :=
  .next ((s.advance (3 + dispSize d)).storeW (s.eaIdx y d) (s.pair pp))

/-- R277: `LD (XY+d),YX`. -/
def execLdIdxDYx (y : Idx) (d : Disp) (s : State) : Exec :=
  .next ((s.advance (3 + dispSize d)).storeW (s.eaIdx y d) (s.idx (otherIdx y)))

/-- R263: `LD (p),nn`. -/
def execLdIndPpNn (pp : Pair) (nn : Imm) (s : State) : Exec :=
  .next ((s.advance (2 + immSize nn)).storeW (s.pair pp) (immValue nn))

/-- R259: `LD (nn),p`. -/
def execLdDirNnDd (nn : Imm) (dd : Pair4) (s : State) : Exec :=
  .next ((s.advance (2 + immSize nn)).storeW (immValue nn) (s.pair4 dd))

/-- R256: `LD p,(nn)`. -/
def execLdDdDirNn (dd : Pair4) (nn : Imm) (s : State) : Exec :=
  .next ((s.advance (2 + immSize nn)).wrPair4 dd (s.loadW (immValue nn)))

/-- R293: `POP SR`. -/
def execPopSr (s : State) : Exec :=
  .next (((s.advance 2).dropped s.lwEff).srWrite 0xFFFFFF7F (popSrValue s.lwEff (s.popped s.lwEff)))

/-- R292: `PUSH SR`. -/
def execPushSr (s : State) : Exec := .next ((s.advance 2).push s.lwEff s.sr)

end Sys2Proof.Machine
end

