-- ==== Sys2Proof/Machine/Load8.lean ====
section
/-! DEFINITION. The 8-bit load group (R200 to R222). -/

namespace Sys2Proof.Machine

/-- R213: `LD (BC),A`. -/
def execLdIndBcA (s : State) : Exec := .next ((s.advance 1).writeByte (s.pair .bc) s.a)

/-- R218: `LD (DE),A`. -/
def execLdIndDeA (s : State) : Exec := .next ((s.advance 1).writeByte (s.pair .de) s.a)

/-- R210: `LD A,(BC)`. -/
def execLdAIndBc (s : State) : Exec := .next ((s.advance 1).setA (s.readByte (s.pair .bc)))

/-- R211: `LD A,(DE)`. -/
def execLdAIndDe (s : State) : Exec := .next ((s.advance 1).setA (s.readByte (s.pair .de)))

/-- R203: `LD r,n`. -/
def execLdRN (r : Reg8) (n : BitVec 8) (s : State) : Exec := .next ((s.advance 2).setReg8 r n)

/-- R208: `LD (HL),n`. -/
def execLdIndHlN (n : BitVec 8) (s : State) : Exec := .next ((s.advance 2).writeByte (s.pair .hl) n)

/-- R219: `LD (nn),A`. -/
def execLdDirNnA (nn : Imm) (s : State) : Exec := .next ((s.advance (1 + immSize nn)).writeByte (immValue nn) s.a)

/-- R212: `LD A,(nn)`. -/
def execLdADirNn (nn : Imm) (s : State) : Exec := .next ((s.advance (1 + immSize nn)).setA (s.readByte (immValue nn)))

/-- R202: `LD r,s`. -/
def execLdRR (r : Reg8) (r' : Reg8) (s : State) : Exec := .next ((s.advance 1).setReg8 r (s.reg8 r'))

/-- R204: `LD r,(HL)`. -/
def execLdRIndHl (r : Reg8) (s : State) : Exec := .next ((s.advance 1).setReg8 r (s.readByte (s.pair .hl)))

/-- R206: `LD (HL),r`. -/
def execLdIndHlR (r : Reg8) (s : State) : Exec := .next ((s.advance 1).writeByte (s.pair .hl) (s.reg8 r))

/-- R220: `LD h,n`. -/
def execLdHalfN (y : Idx) (h : Half) (n : BitVec 8) (s : State) : Exec := .next ((s.advance 3).setHalf y h n)

/-- R209: `LD (XY+d),n`. -/
def execLdIdxDN (y : Idx) (d : Disp) (n : BitVec 8) (s : State) : Exec :=
  .next ((s.advance (3 + dispSize d)).writeByte (s.eaIdx y d) n)

/-- R221: `LD h,s`. -/
def execLdHalfS (y : Idx) (h : Half) (src : HalfSrc) (s : State) : Exec :=
  .next ((s.advance 2).setHalf y h (s.halfSrc y src))

/-- R222: `LD r,h`. -/
def execLdRHalf (r : Reg8) (y : Idx) (h : Half) (s : State) : Exec := .next ((s.advance 2).setReg8 r (s.half y h))

/-- R205: `LD r,(XY+d)`. -/
def execLdRIdxD (r : Reg8) (y : Idx) (d : Disp) (s : State) : Exec :=
  .next ((s.advance (2 + dispSize d)).setReg8 r (s.readByte (s.eaIdx y d)))

/-- R207: `LD (XY+d),r`. -/
def execLdIdxDR (y : Idx) (d : Disp) (r : Reg8) (s : State) : Exec :=
  .next ((s.advance (2 + dispSize d)).writeByte (s.eaIdx y d) (s.reg8 r))

/-- R215: `LD I,A`. -/
def execLdIA (s : State) : Exec := .next ((s.advance 2).setIreg (withHi8 s.ireg s.a))

/-- R216: `LD R,A`. -/
def execLdRA (s : State) : Exec := .next ((s.advance 2).setR s.a)

/-- R214: `LD A,I`. -/
def execLdAI (s : State) : Exec :=
  .next (((s.advance 2).setA (hi8 s.ireg)).setFlags (loadIrFlags s.flags (hi8 s.ireg) s.ief2))

/-- R217: `LD A,R`. The value read is a draw (D14; log 35). -/
def execLdAR (s : State) : Exec :=
  .next (((s.advance 2).setA (Config.drawR s.clock)).setFlags (loadIrFlags s.flags (Config.drawR s.clock) s.ief2))

end Sys2Proof.Machine
end

