-- ==== Sys2Proof/Machine/MulDiv.lean ====
section
/-! DEFINITION. Multiply and divide (R510 to R513). -/

namespace Sys2Proof.Machine

/-- R511, R512: the flags of a multiplication; H and N stay, C follows `MULT_C_RULE` (D32). -/
def State.multFlags (s : State) (t : Long) (c : Bool) : Flags :=
  { s.flags with
    s := t.msb
    z := t == 0
    pv := false
    c := match s.params.multCRule with
      | .product => c
      | .draw => s.draws.getLsbD 0 }

/-- R511: the signed product of HL[15:0] and a word (D11). -/
def signedProduct (a b : Word) : Long := sext32 a * sext32 b

/-- R512: the unsigned product of HL[15:0] and a word (D11). -/
def unsignedProduct (a b : Word) : Long := zext32 a * zext32 b

/-- R511: HL takes the signed product; C says that it does not fit in 16 signed bits. -/
def State.multw (s : State) (v : Word) : State :=
  let t := signedProduct (lo16 (s.pair .hl)) v
  (s.setPair .hl t).setFlags (s.multFlags t (t != sext32 (lo16 t)))

/-- R512: HL takes the unsigned product; C says that its upper word is not 0. -/
def State.multuw (s : State) (v : Word) : State :=
  let t := unsignedProduct (lo16 (s.pair .hl)) v
  (s.setPair .hl t).setFlags (s.multFlags t (ext16 t != 0))

/-- R513: the divisor is not 0 and the quotient fits in 16 bits. -/
def dividable (n : Long) (v : Word) : Bool := v != 0 && decide (n.toNat / v.toNat ≤ 0xFFFF)

/-- R513: HL and Z after a division: remainder and quotient, or as `DIV_CORNER` says (D12). -/
def State.quotient (s : State) (n : Long) (v : Word) : Long × Bool :=
  if dividable n v then
    (BitVec.ofNat 16 (n.toNat % v.toNat) ++ BitVec.ofNat 16 (n.toNat / v.toNat), decide (n.toNat / v.toNat = 0))
  else
    match s.params.divCorner with
    | .draw => Config.drawQuotient s.clock
    | .unchanged => (n, false)

/-- R513: HL divided by a word: S = 0, P/V says that there is no quotient; C, H and N stay. -/
def State.divuw (s : State) (v : Word) : State :=
  let q := s.quotient (s.pair .hl) v
  (s.setPair .hl q.1).setFlags { s.flags with s := false, z := q.2, pv := !dividable (s.pair .hl) v }

/-- R510: the unsigned product of the two bytes of a word. -/
def byteProduct (w : Word) : Word := (wordHi w).setWidth 16 * (wordLo w).setWidth 16

/-- R511: `MULTW HL,(XY+d)`. -/
def execMultwHlIdxD (y : Idx) (d : Disp) (s : State) : Exec :=
  .next ((s.advance (3 + dispSize d)).multw (s.readWord (s.eaIdx y d)))

/-- R512: `MULTUW HL,(XY+d)`. -/
def execMultuwHlIdxD (y : Idx) (d : Disp) (s : State) : Exec :=
  .next ((s.advance (3 + dispSize d)).multuw (s.readWord (s.eaIdx y d)))

/-- R513: `DIVUW HL,(XY+d)`. -/
def execDivuwHlIdxD (y : Idx) (d : Disp) (s : State) : Exec :=
  .next ((s.advance (3 + dispSize d)).divuw (s.readWord (s.eaIdx y d)))

/-- R510: `MLT p`. -/
def execMltDd (dd : Pair4) (s : State) : Exec :=
  .next ((s.advance 2).setPair4 dd (withLo16 (s.pair4 dd) (byteProduct (lo16 (s.pair4 dd)))))

/-- R511: `MULTW HL,x`. -/
def execMultwHlWop (x : WordOp) (s : State) : Exec := .next ((s.advance 3).multw (s.wordOp x))

/-- R511: `MULTW HL,nn`. -/
def execMultwHlNn (nn : Imm) (s : State) : Exec := .next ((s.advance (3 + immSize nn)).multw (lo16 (immValue nn)))

/-- R512: `MULTUW HL,x`. -/
def execMultuwHlWop (x : WordOp) (s : State) : Exec := .next ((s.advance 3).multuw (s.wordOp x))

/-- R512: `MULTUW HL,nn`. -/
def execMultuwHlNn (nn : Imm) (s : State) : Exec := .next ((s.advance (3 + immSize nn)).multuw (lo16 (immValue nn)))

/-- R513: `DIVUW HL,x`. -/
def execDivuwHlWop (x : WordOp) (s : State) : Exec := .next ((s.advance 3).divuw (s.wordOp x))

/-- R513: `DIVUW HL,nn`. -/
def execDivuwHlNn (nn : Imm) (s : State) : Exec := .next ((s.advance (3 + immSize nn)).divuw (lo16 (immValue nn)))

end Sys2Proof.Machine
end

