-- ==== Sys2Proof/Machine/Shift.lean ====
section
/-! DEFINITION. 8-bit and word rotates and shifts (R540 to R567). -/

namespace Sys2Proof.Machine

/-- What a rotate or shift makes of an operand: the result and the bit shifted out (R542). -/
structure Shifted (n : Nat) where
  val  : BitVec n
  cout : Bool
  deriving DecidableEq, Repr

/-- R547, R561. -/
def shiftRlc {n : Nat} (v : BitVec n) : Shifted n := ⟨v.rotateLeft 1, v.msb⟩

/-- R548, R562. -/
def shiftRrc {n : Nat} (v : BitVec n) : Shifted n := ⟨v.rotateRight 1, v.getLsbD 0⟩

/-- R549, R563: the carry comes in at bit 0. -/
def shiftRl {n : Nat} (c : Bool) (v : BitVec n) : Shifted n := ⟨(v <<< 1) ||| BitVec.ofNat n (carryNat c), v.msb⟩

/-- R550, R564: the carry comes in at the top bit. -/
def shiftRr {n : Nat} (c : Bool) (v : BitVec n) : Shifted n :=
  ⟨(v >>> 1) ||| (BitVec.ofNat n (carryNat c) <<< (n - 1)), v.getLsbD 0⟩

/-- R551, R565. -/
def shiftSla {n : Nat} (v : BitVec n) : Shifted n := ⟨v <<< 1, v.msb⟩

/-- R552, R566: the top bit stays. -/
def shiftSra {n : Nat} (v : BitVec n) : Shifted n := ⟨v.sshiftRight 1, v.getLsbD 0⟩

/-- R553, R567. -/
def shiftSrl {n : Nat} (v : BitVec n) : Shifted n := ⟨v >>> 1, v.getLsbD 0⟩

/-- R540: a register takes the result of a shift, with the flags of R542. -/
def State.shiftReg (s : State) (r : Reg8) (t : Shifted 8) : State :=
  (s.setReg8 r t.val).setFlags (shiftFlags8 t.val t.cout)

/-- R540: a memory byte takes the result of a shift, with the flags of R542. -/
def State.shiftMem (s : State) (a : Long) (t : Shifted 8) : State :=
  (s.writeByte a t.val).setFlags (shiftFlags8 t.val t.cout)

/-- R560: a word operand takes the result of a shift, with the flags of R542. -/
def State.shiftWop (s : State) (x : WordOp) (t : Shifted 16) : State :=
  (s.setWordOp x t.val).setFlags (shiftFlags16 t.val t.cout)

/-- R560: a memory word takes the result of a shift, with the flags of R542. -/
def State.shiftMemW (s : State) (a : Long) (t : Shifted 16) : State :=
  (s.writeWord a t.val).setFlags (shiftFlags16 t.val t.cout)

/-- R543 to R546: A takes the result of a rotate; S, Z and P/V stay. -/
def State.rotateA (s : State) (t : Shifted 8) : State := (s.setA t.val).setFlags (rotateAFlags s.flags t.cout)

/-- R554, R555: the flags of RLD and RRD: C stays. -/
def digitFlags (old : Flags) (a : Byte) : Flags where
  s := a.msb
  z := a == 0
  h := false
  pv := evenParity a
  n := false
  c := old.c

/-- The low digit of a byte. -/
def digitLo (v : Byte) : BitVec 4 := v.extractLsb' 0 4

/-- The high digit of a byte. -/
def digitHi (v : Byte) : BitVec 4 := v.extractLsb' 4 4

/-- R554, R555: the byte at (HL) and A take new digits, with the flags of R554. -/
def State.rotateDigits (s : State) (m a : Byte) : State :=
  ((s.writeByte (s.pair .hl) m).setA a).setFlags (digitFlags s.flags a)

/-- R543: `RLCA`. -/
def execRlca (s : State) : Exec := .next ((s.advance 1).rotateA (shiftRlc s.a))

/-- R544: `RRCA`. -/
def execRrca (s : State) : Exec := .next ((s.advance 1).rotateA (shiftRrc s.a))

/-- R545: `RLA`. -/
def execRla (s : State) : Exec := .next ((s.advance 1).rotateA (shiftRl s.carry s.a))

/-- R546: `RRA`. -/
def execRra (s : State) : Exec := .next ((s.advance 1).rotateA (shiftRr s.carry s.a))

/-- R547: `RLC r`. -/
def execRlcR (r : Reg8) (s : State) : Exec := .next ((s.advance 2).shiftReg r (shiftRlc (s.reg8 r)))

/-- R547: `RLC (HL)`. -/
def execRlcIndHl (s : State) : Exec := .next ((s.advance 2).shiftMem (s.pair .hl) (shiftRlc (s.readByte (s.pair .hl))))

/-- R548: `RRC r`. -/
def execRrcR (r : Reg8) (s : State) : Exec := .next ((s.advance 2).shiftReg r (shiftRrc (s.reg8 r)))

/-- R548: `RRC (HL)`. -/
def execRrcIndHl (s : State) : Exec := .next ((s.advance 2).shiftMem (s.pair .hl) (shiftRrc (s.readByte (s.pair .hl))))

/-- R549: `RL r`. -/
def execRlR (r : Reg8) (s : State) : Exec := .next ((s.advance 2).shiftReg r (shiftRl s.carry (s.reg8 r)))

/-- R549: `RL (HL)`. -/
def execRlIndHl (s : State) : Exec :=
  .next ((s.advance 2).shiftMem (s.pair .hl) (shiftRl s.carry (s.readByte (s.pair .hl))))

/-- R550: `RR r`. -/
def execRrR (r : Reg8) (s : State) : Exec := .next ((s.advance 2).shiftReg r (shiftRr s.carry (s.reg8 r)))

/-- R550: `RR (HL)`. -/
def execRrIndHl (s : State) : Exec :=
  .next ((s.advance 2).shiftMem (s.pair .hl) (shiftRr s.carry (s.readByte (s.pair .hl))))

/-- R551: `SLA r`. -/
def execSlaR (r : Reg8) (s : State) : Exec := .next ((s.advance 2).shiftReg r (shiftSla (s.reg8 r)))

/-- R551: `SLA (HL)`. -/
def execSlaIndHl (s : State) : Exec := .next ((s.advance 2).shiftMem (s.pair .hl) (shiftSla (s.readByte (s.pair .hl))))

/-- R552: `SRA r`. -/
def execSraR (r : Reg8) (s : State) : Exec := .next ((s.advance 2).shiftReg r (shiftSra (s.reg8 r)))

/-- R552: `SRA (HL)`. -/
def execSraIndHl (s : State) : Exec := .next ((s.advance 2).shiftMem (s.pair .hl) (shiftSra (s.readByte (s.pair .hl))))

/-- R553: `SRL r`. -/
def execSrlR (r : Reg8) (s : State) : Exec := .next ((s.advance 2).shiftReg r (shiftSrl (s.reg8 r)))

/-- R553: `SRL (HL)`. -/
def execSrlIndHl (s : State) : Exec := .next ((s.advance 2).shiftMem (s.pair .hl) (shiftSrl (s.readByte (s.pair .hl))))

/-- R547: `RLC (XY+d)`. -/
def execRlcIdxD (y : Idx) (d : Disp) (s : State) : Exec :=
  .next ((s.advance (3 + dispSize d)).shiftMem (s.eaIdx y d) (shiftRlc (s.readByte (s.eaIdx y d))))

/-- R548: `RRC (XY+d)`. -/
def execRrcIdxD (y : Idx) (d : Disp) (s : State) : Exec :=
  .next ((s.advance (3 + dispSize d)).shiftMem (s.eaIdx y d) (shiftRrc (s.readByte (s.eaIdx y d))))

/-- R549: `RL (XY+d)`. -/
def execRlIdxD (y : Idx) (d : Disp) (s : State) : Exec :=
  .next ((s.advance (3 + dispSize d)).shiftMem (s.eaIdx y d) (shiftRl s.carry (s.readByte (s.eaIdx y d))))

/-- R550: `RR (XY+d)`. -/
def execRrIdxD (y : Idx) (d : Disp) (s : State) : Exec :=
  .next ((s.advance (3 + dispSize d)).shiftMem (s.eaIdx y d) (shiftRr s.carry (s.readByte (s.eaIdx y d))))

/-- R551: `SLA (XY+d)`. -/
def execSlaIdxD (y : Idx) (d : Disp) (s : State) : Exec :=
  .next ((s.advance (3 + dispSize d)).shiftMem (s.eaIdx y d) (shiftSla (s.readByte (s.eaIdx y d))))

/-- R552: `SRA (XY+d)`. -/
def execSraIdxD (y : Idx) (d : Disp) (s : State) : Exec :=
  .next ((s.advance (3 + dispSize d)).shiftMem (s.eaIdx y d) (shiftSra (s.readByte (s.eaIdx y d))))

/-- R553: `SRL (XY+d)`. -/
def execSrlIdxD (y : Idx) (d : Disp) (s : State) : Exec :=
  .next ((s.advance (3 + dispSize d)).shiftMem (s.eaIdx y d) (shiftSrl (s.readByte (s.eaIdx y d))))

/-- R561: `RLCW (XY+d)`. -/
def execRlcwIdxD (y : Idx) (d : Disp) (s : State) : Exec :=
  .next ((s.advance (3 + dispSize d)).shiftMemW (s.eaIdx y d) (shiftRlc (s.readWord (s.eaIdx y d))))

/-- R561: `RLCW x`. -/
def execRlcwWop (x : WordOp) (s : State) : Exec := .next ((s.advance 3).shiftWop x (shiftRlc (s.wordOp x)))

/-- R562: `RRCW (XY+d)`. -/
def execRrcwIdxD (y : Idx) (d : Disp) (s : State) : Exec :=
  .next ((s.advance (3 + dispSize d)).shiftMemW (s.eaIdx y d) (shiftRrc (s.readWord (s.eaIdx y d))))

/-- R562: `RRCW x`. -/
def execRrcwWop (x : WordOp) (s : State) : Exec := .next ((s.advance 3).shiftWop x (shiftRrc (s.wordOp x)))

/-- R563: `RLW (XY+d)`. -/
def execRlwIdxD (y : Idx) (d : Disp) (s : State) : Exec :=
  .next ((s.advance (3 + dispSize d)).shiftMemW (s.eaIdx y d) (shiftRl s.carry (s.readWord (s.eaIdx y d))))

/-- R563: `RLW x`. -/
def execRlwWop (x : WordOp) (s : State) : Exec := .next ((s.advance 3).shiftWop x (shiftRl s.carry (s.wordOp x)))

/-- R564: `RRW (XY+d)`. -/
def execRrwIdxD (y : Idx) (d : Disp) (s : State) : Exec :=
  .next ((s.advance (3 + dispSize d)).shiftMemW (s.eaIdx y d) (shiftRr s.carry (s.readWord (s.eaIdx y d))))

/-- R564: `RRW x`. -/
def execRrwWop (x : WordOp) (s : State) : Exec := .next ((s.advance 3).shiftWop x (shiftRr s.carry (s.wordOp x)))

/-- R565: `SLAW (XY+d)`. -/
def execSlawIdxD (y : Idx) (d : Disp) (s : State) : Exec :=
  .next ((s.advance (3 + dispSize d)).shiftMemW (s.eaIdx y d) (shiftSla (s.readWord (s.eaIdx y d))))

/-- R565: `SLAW x`. -/
def execSlawWop (x : WordOp) (s : State) : Exec := .next ((s.advance 3).shiftWop x (shiftSla (s.wordOp x)))

/-- R566: `SRAW (XY+d)`. -/
def execSrawIdxD (y : Idx) (d : Disp) (s : State) : Exec :=
  .next ((s.advance (3 + dispSize d)).shiftMemW (s.eaIdx y d) (shiftSra (s.readWord (s.eaIdx y d))))

/-- R566: `SRAW x`. -/
def execSrawWop (x : WordOp) (s : State) : Exec := .next ((s.advance 3).shiftWop x (shiftSra (s.wordOp x)))

/-- R567: `SRLW (XY+d)`. -/
def execSrlwIdxD (y : Idx) (d : Disp) (s : State) : Exec :=
  .next ((s.advance (3 + dispSize d)).shiftMemW (s.eaIdx y d) (shiftSrl (s.readWord (s.eaIdx y d))))

/-- R567: `SRLW x`. -/
def execSrlwWop (x : WordOp) (s : State) : Exec := .next ((s.advance 3).shiftWop x (shiftSrl (s.wordOp x)))

/-- R555: `RRD`. -/
def execRrd (s : State) : Exec :=
  .next ((s.advance 2).rotateDigits (digitLo s.a ++ digitHi (s.readByte (s.pair .hl))) (digitHi s.a ++ digitLo
    (s.readByte (s.pair .hl))))

/-- R554: `RLD`. -/
def execRld (s : State) : Exec :=
  .next ((s.advance 2).rotateDigits (digitLo (s.readByte (s.pair .hl)) ++ digitLo s.a) (digitHi s.a ++ digitHi
    (s.readByte (s.pair .hl))))

end Sys2Proof.Machine
end

