-- ==== Sys2Proof/Machine/Dispatch.lean ====
section
/-! DEFINITION. The dispatch: one arm per instruction, each one call of its meaning. -/

namespace Sys2Proof.Machine

/-- The effect of an instruction on a state: R19 (e), item 4. -/
def exec (i : Instr) (s : State) : Host.Outcome State Fault Refusal :=
  match i with
  | .ldDdNn dd nn => Sys2Proof.Machine.execLdDdNn dd nn s
  | .incDd dd => Sys2Proof.Machine.execIncDd dd s
  | .decDd dd => Sys2Proof.Machine.execDecDd dd s
  | .incR r => Sys2Proof.Machine.execIncR r s
  | .decR r => Sys2Proof.Machine.execDecR r s
  | .ldRN r n => Sys2Proof.Machine.execLdRN r n s
  | .ldIndHlN n => Sys2Proof.Machine.execLdIndHlN n s
  | .addHlDd dd => Sys2Proof.Machine.execAddHlDd dd s
  | .djnzE8 e => Sys2Proof.Machine.execDjnzE8 e s
  | .jrE8 e => Sys2Proof.Machine.execJrE8 e s
  | .jrCcE8 cc e => Sys2Proof.Machine.execJrCcE8 cc e s
  | .ldDirNnHl nn => Sys2Proof.Machine.execLdDirNnHl nn s
  | .ldHlDirNn nn => Sys2Proof.Machine.execLdHlDirNn nn s
  | .ldDirNnA nn => Sys2Proof.Machine.execLdDirNnA nn s
  | .ldADirNn nn => Sys2Proof.Machine.execLdADirNn nn s
  | .ldRR r r' => Sys2Proof.Machine.execLdRR r r' s
  | .ldRIndHl r => Sys2Proof.Machine.execLdRIndHl r s
  | .ldIndHlR r => Sys2Proof.Machine.execLdIndHlR r s
  | .addAR r => Sys2Proof.Machine.execAddAR r s
  | .addAN n => Sys2Proof.Machine.execAddAN n s
  | .adcAR r => Sys2Proof.Machine.execAdcAR r s
  | .adcAN n => Sys2Proof.Machine.execAdcAN n s
  | .subR r => Sys2Proof.Machine.execSubR r s
  | .subN n => Sys2Proof.Machine.execSubN n s
  | .sbcAR r => Sys2Proof.Machine.execSbcAR r s
  | .sbcAN n => Sys2Proof.Machine.execSbcAN n s
  | .andR r => Sys2Proof.Machine.execAndR r s
  | .andN n => Sys2Proof.Machine.execAndN n s
  | .xorR r => Sys2Proof.Machine.execXorR r s
  | .xorN n => Sys2Proof.Machine.execXorN n s
  | .orR r => Sys2Proof.Machine.execOrR r s
  | .orN n => Sys2Proof.Machine.execOrN n s
  | .cpR r => Sys2Proof.Machine.execCpR r s
  | .cpN n => Sys2Proof.Machine.execCpN n s
  | .retCc cc => Sys2Proof.Machine.execRetCc cc s
  | .popQq qq => Sys2Proof.Machine.execPopQq qq s
  | .jpCcNn cc nn => Sys2Proof.Machine.execJpCcNn cc nn s
  | .jpNn nn => Sys2Proof.Machine.execJpNn nn s
  | .callCcNn cc nn => Sys2Proof.Machine.execCallCcNn cc nn s
  | .pushQq qq => Sys2Proof.Machine.execPushQq qq s
  | .rstP p => Sys2Proof.Machine.execRstP p s
  | .callNn nn => Sys2Proof.Machine.execCallNn nn s
  | .outPortNA n => Sys2Proof.Machine.execOutPortNA n s
  | .inAPortN n => Sys2Proof.Machine.execInAPortN n s
  | .rlcR r => Sys2Proof.Machine.execRlcR r s
  | .rrcR r => Sys2Proof.Machine.execRrcR r s
  | .rlR r => Sys2Proof.Machine.execRlR r s
  | .rrR r => Sys2Proof.Machine.execRrR r s
  | .slaR r => Sys2Proof.Machine.execSlaR r s
  | .sraR r => Sys2Proof.Machine.execSraR r s
  | .srlR r => Sys2Proof.Machine.execSrlR r s
  | .exRRAlt r => Sys2Proof.Machine.execExRRAlt r s
  | .bitBR b r => Sys2Proof.Machine.execBitBR b r s
  | .bitBIndHl b => Sys2Proof.Machine.execBitBIndHl b s
  | .resBR b r => Sys2Proof.Machine.execResBR b r s
  | .resBIndHl b => Sys2Proof.Machine.execResBIndHl b s
  | .setBR b r => Sys2Proof.Machine.execSetBR b r s
  | .setBIndHl b => Sys2Proof.Machine.execSetBIndHl b s
  | .addXyTt y tt => Sys2Proof.Machine.execAddXyTt y tt s
  | .ldIndPpXy pp y => Sys2Proof.Machine.execLdIndPpXy pp y s
  | .ldXyIndPp y pp => Sys2Proof.Machine.execLdXyIndPp y pp s
  | .ldXyPp y pp => Sys2Proof.Machine.execLdXyPp y pp s
  | .ldPpXy pp y => Sys2Proof.Machine.execLdPpXy pp y s
  | .ldPpIndUu pp uu => Sys2Proof.Machine.execLdPpIndUu pp uu s
  | .ldIndPpUu pp uu => Sys2Proof.Machine.execLdIndPpUu pp uu s
  | .ldPpBc pp => Sys2Proof.Machine.execLdPpBc pp s
  | .ldPpDe pp => Sys2Proof.Machine.execLdPpDe pp s
  | .ldPpHl pp => Sys2Proof.Machine.execLdPpHl pp s
  | .djnzE16 e => Sys2Proof.Machine.execDjnzE16 e s
  | .djnzE24 e => Sys2Proof.Machine.execDjnzE24 e s
  | .jrE16 e => Sys2Proof.Machine.execJrE16 e s
  | .jrE24 e => Sys2Proof.Machine.execJrE24 e s
  | .jrCcE16 cc e => Sys2Proof.Machine.execJrCcE16 cc e s
  | .jrCcE24 cc e => Sys2Proof.Machine.execJrCcE24 cc e s
  | .ldXyNn y nn => Sys2Proof.Machine.execLdXyNn y nn s
  | .ldDirNnXy nn y => Sys2Proof.Machine.execLdDirNnXy nn y s
  | .ldXyDirNn y nn => Sys2Proof.Machine.execLdXyDirNn y nn s
  | .incXy y => Sys2Proof.Machine.execIncXy y s
  | .decXy y => Sys2Proof.Machine.execDecXy y s
  | .incHalf y h => Sys2Proof.Machine.execIncHalf y h s
  | .decHalf y h => Sys2Proof.Machine.execDecHalf y h s
  | .ldHalfN y h n => Sys2Proof.Machine.execLdHalfN y h n s
  | .incIdxD y d => Sys2Proof.Machine.execIncIdxD y d s
  | .decIdxD y d => Sys2Proof.Machine.execDecIdxD y d s
  | .ldIdxDN y d n => Sys2Proof.Machine.execLdIdxDN y d n s
  | .swapXy y => Sys2Proof.Machine.execSwapXy y s
  | .outwPortCNn nn => Sys2Proof.Machine.execOutwPortCNn nn s
  | .ldHalfS y h src => Sys2Proof.Machine.execLdHalfS y h src s
  | .ldRHalf r y h => Sys2Proof.Machine.execLdRHalf r y h s
  | .ldRIdxD r y d => Sys2Proof.Machine.execLdRIdxD r y d s
  | .ldIdxDR y d r => Sys2Proof.Machine.execLdIdxDR y d r s
  | .addAHalf y h => Sys2Proof.Machine.execAddAHalf y h s
  | .addAIdxD y d => Sys2Proof.Machine.execAddAIdxD y d s
  | .adcAHalf y h => Sys2Proof.Machine.execAdcAHalf y h s
  | .adcAIdxD y d => Sys2Proof.Machine.execAdcAIdxD y d s
  | .subHalf y h => Sys2Proof.Machine.execSubHalf y h s
  | .subIdxD y d => Sys2Proof.Machine.execSubIdxD y d s
  | .sbcAHalf y h => Sys2Proof.Machine.execSbcAHalf y h s
  | .sbcAIdxD y d => Sys2Proof.Machine.execSbcAIdxD y d s
  | .andHalf y h => Sys2Proof.Machine.execAndHalf y h s
  | .andIdxD y d => Sys2Proof.Machine.execAndIdxD y d s
  | .xorHalf y h => Sys2Proof.Machine.execXorHalf y h s
  | .xorIdxD y d => Sys2Proof.Machine.execXorIdxD y d s
  | .orHalf y h => Sys2Proof.Machine.execOrHalf y h s
  | .orIdxD y d => Sys2Proof.Machine.execOrIdxD y d s
  | .cpHalf y h => Sys2Proof.Machine.execCpHalf y h s
  | .cpIdxD y d => Sys2Proof.Machine.execCpIdxD y d s
  | .addwHlXy y => Sys2Proof.Machine.execAddwHlXy y s
  | .addwHlIdxD y d => Sys2Proof.Machine.execAddwHlIdxD y d s
  | .addwHlPp pp => Sys2Proof.Machine.execAddwHlPp pp s
  | .addwHlNn nn => Sys2Proof.Machine.execAddwHlNn nn s
  | .adcwHlXy y => Sys2Proof.Machine.execAdcwHlXy y s
  | .adcwHlIdxD y d => Sys2Proof.Machine.execAdcwHlIdxD y d s
  | .adcwHlPp pp => Sys2Proof.Machine.execAdcwHlPp pp s
  | .adcwHlNn nn => Sys2Proof.Machine.execAdcwHlNn nn s
  | .subwHlXy y => Sys2Proof.Machine.execSubwHlXy y s
  | .subwHlIdxD y d => Sys2Proof.Machine.execSubwHlIdxD y d s
  | .subwHlPp pp => Sys2Proof.Machine.execSubwHlPp pp s
  | .subwHlNn nn => Sys2Proof.Machine.execSubwHlNn nn s
  | .sbcwHlXy y => Sys2Proof.Machine.execSbcwHlXy y s
  | .sbcwHlIdxD y d => Sys2Proof.Machine.execSbcwHlIdxD y d s
  | .sbcwHlPp pp => Sys2Proof.Machine.execSbcwHlPp pp s
  | .sbcwHlNn nn => Sys2Proof.Machine.execSbcwHlNn nn s
  | .andwHlXy y => Sys2Proof.Machine.execAndwHlXy y s
  | .andwHlIdxD y d => Sys2Proof.Machine.execAndwHlIdxD y d s
  | .andwHlPp pp => Sys2Proof.Machine.execAndwHlPp pp s
  | .andwHlNn nn => Sys2Proof.Machine.execAndwHlNn nn s
  | .xorwHlXy y => Sys2Proof.Machine.execXorwHlXy y s
  | .xorwHlIdxD y d => Sys2Proof.Machine.execXorwHlIdxD y d s
  | .xorwHlPp pp => Sys2Proof.Machine.execXorwHlPp pp s
  | .xorwHlNn nn => Sys2Proof.Machine.execXorwHlNn nn s
  | .orwHlXy y => Sys2Proof.Machine.execOrwHlXy y s
  | .orwHlIdxD y d => Sys2Proof.Machine.execOrwHlIdxD y d s
  | .orwHlPp pp => Sys2Proof.Machine.execOrwHlPp pp s
  | .orwHlNn nn => Sys2Proof.Machine.execOrwHlNn nn s
  | .cpwHlXy y => Sys2Proof.Machine.execCpwHlXy y s
  | .cpwHlIdxD y d => Sys2Proof.Machine.execCpwHlIdxD y d s
  | .cpwHlPp pp => Sys2Proof.Machine.execCpwHlPp pp s
  | .cpwHlNn nn => Sys2Proof.Machine.execCpwHlNn nn s
  | .calrCcE16 cc e => Sys2Proof.Machine.execCalrCcE16 cc e s
  | .calrCcE24 cc e => Sys2Proof.Machine.execCalrCcE24 cc e s
  | .calrE16 e => Sys2Proof.Machine.execCalrE16 e s
  | .calrE24 e => Sys2Proof.Machine.execCalrE24 e s
  | .ldctlSrN n => Sys2Proof.Machine.execLdctlSrN n s
  | .ldctlXsrN n => Sys2Proof.Machine.execLdctlXsrN n s
  | .ldctlYsrN n => Sys2Proof.Machine.execLdctlYsrN n s
  | .outawDirNnHl nn => Sys2Proof.Machine.execOutawDirNnHl nn s
  | .inawHlDirNn nn => Sys2Proof.Machine.execInawHlDirNn nn s
  | .popXy y => Sys2Proof.Machine.execPopXy y s
  | .exIndSpXy y => Sys2Proof.Machine.execExIndSpXy y s
  | .pushXy y => Sys2Proof.Machine.execPushXy y s
  | .jpIndXy y => Sys2Proof.Machine.execJpIndXy y s
  | .ldSpXy y => Sys2Proof.Machine.execLdSpXy y s
  | .diN n => Sys2Proof.Machine.execDiN n s
  | .eiN n => Sys2Proof.Machine.execEiN n s
  | .pushNn nn => Sys2Proof.Machine.execPushNn nn s
  | .rlcIdxD y d => Sys2Proof.Machine.execRlcIdxD y d s
  | .rrcIdxD y d => Sys2Proof.Machine.execRrcIdxD y d s
  | .rlIdxD y d => Sys2Proof.Machine.execRlIdxD y d s
  | .rrIdxD y d => Sys2Proof.Machine.execRrIdxD y d s
  | .slaIdxD y d => Sys2Proof.Machine.execSlaIdxD y d s
  | .sraIdxD y d => Sys2Proof.Machine.execSraIdxD y d s
  | .srlIdxD y d => Sys2Proof.Machine.execSrlIdxD y d s
  | .bitBIdxD b y d => Sys2Proof.Machine.execBitBIdxD b y d s
  | .resBIdxD b y d => Sys2Proof.Machine.execResBIdxD b y d s
  | .setBIdxD b y d => Sys2Proof.Machine.execSetBIdxD b y d s
  | .rlcwIdxD y d => Sys2Proof.Machine.execRlcwIdxD y d s
  | .rlcwWop x => Sys2Proof.Machine.execRlcwWop x s
  | .rrcwIdxD y d => Sys2Proof.Machine.execRrcwIdxD y d s
  | .rrcwWop x => Sys2Proof.Machine.execRrcwWop x s
  | .rlwIdxD y d => Sys2Proof.Machine.execRlwIdxD y d s
  | .rlwWop x => Sys2Proof.Machine.execRlwWop x s
  | .rrwIdxD y d => Sys2Proof.Machine.execRrwIdxD y d s
  | .rrwWop x => Sys2Proof.Machine.execRrwWop x s
  | .slawIdxD y d => Sys2Proof.Machine.execSlawIdxD y d s
  | .slawWop x => Sys2Proof.Machine.execSlawWop x s
  | .srawIdxD y d => Sys2Proof.Machine.execSrawIdxD y d s
  | .srawWop x => Sys2Proof.Machine.execSrawWop x s
  | .srlwIdxD y d => Sys2Proof.Machine.execSrlwIdxD y d s
  | .srlwWop x => Sys2Proof.Machine.execSrlwWop x s
  | .ldPpSpD pp d => Sys2Proof.Machine.execLdPpSpD pp d s
  | .ldXySpD y d => Sys2Proof.Machine.execLdXySpD y d s
  | .ldPpIdxD pp y d => Sys2Proof.Machine.execLdPpIdxD pp y d s
  | .ldYxIdxD y d => Sys2Proof.Machine.execLdYxIdxD y d s
  | .ldSpDPp d pp => Sys2Proof.Machine.execLdSpDPp d pp s
  | .ldSpDXy d y => Sys2Proof.Machine.execLdSpDXy d y s
  | .ldIdxDPp y d pp => Sys2Proof.Machine.execLdIdxDPp y d pp s
  | .ldIdxDYx y d => Sys2Proof.Machine.execLdIdxDYx y d s
  | .multwHlIdxD y d => Sys2Proof.Machine.execMultwHlIdxD y d s
  | .multuwHlIdxD y d => Sys2Proof.Machine.execMultuwHlIdxD y d s
  | .divuwHlIdxD y d => Sys2Proof.Machine.execDivuwHlIdxD y d s
  | .in0RPortN r n => Sys2Proof.Machine.execIn0RPortN r n s
  | .in0PortN n => Sys2Proof.Machine.execIn0PortN n s
  | .out0PortNR n r => Sys2Proof.Machine.execOut0PortNR n r s
  | .tstR r => Sys2Proof.Machine.execTstR r s
  | .tstN n => Sys2Proof.Machine.execTstN n s
  | .ldIndPpNn pp nn => Sys2Proof.Machine.execLdIndPpNn pp nn s
  | .exAR r => Sys2Proof.Machine.execExAR r s
  | .swapPp pp => Sys2Proof.Machine.execSwapPp pp s
  | .inRPortC r => Sys2Proof.Machine.execInRPortC r s
  | .outPortCR r => Sys2Proof.Machine.execOutPortCR r s
  | .outPortCN n => Sys2Proof.Machine.execOutPortCN n s
  | .sbcHlDd dd => Sys2Proof.Machine.execSbcHlDd dd s
  | .adcHlDd dd => Sys2Proof.Machine.execAdcHlDd dd s
  | .ldDirNnDd nn dd => Sys2Proof.Machine.execLdDirNnDd nn dd s
  | .ldDdDirNn dd nn => Sys2Proof.Machine.execLdDdDirNn dd nn s
  | .mltDd dd => Sys2Proof.Machine.execMltDd dd s
  | .tstioN n => Sys2Proof.Machine.execTstioN n s
  | .addSpNn nn => Sys2Proof.Machine.execAddSpNn nn s
  | .subSpNn nn => Sys2Proof.Machine.execSubSpNn nn s
  | .addHlDirNn nn => Sys2Proof.Machine.execAddHlDirNn nn s
  | .subHlDirNn nn => Sys2Proof.Machine.execSubHlDirNn nn s
  | .calrCcE8 cc e => Sys2Proof.Machine.execCalrCcE8 cc e s
  | .calrE8 e => Sys2Proof.Machine.execCalrE8 e s
  | .ldctlDsrN n => Sys2Proof.Machine.execLdctlDsrN n s
  | .outaDirNnA nn => Sys2Proof.Machine.execOutaDirNnA nn s
  | .inaADirNn nn => Sys2Proof.Machine.execInaADirNn nn s
  | .multwHlWop x => Sys2Proof.Machine.execMultwHlWop x s
  | .multwHlNn nn => Sys2Proof.Machine.execMultwHlNn nn s
  | .multuwHlWop x => Sys2Proof.Machine.execMultuwHlWop x s
  | .multuwHlNn nn => Sys2Proof.Machine.execMultuwHlNn nn s
  | .divuwHlWop x => Sys2Proof.Machine.execDivuwHlWop x s
  | .divuwHlNn nn => Sys2Proof.Machine.execDivuwHlNn nn s
  | .nop => Sys2Proof.Machine.execNop s
  | .ldIndBcA => Sys2Proof.Machine.execLdIndBcA s
  | .ldIndDeA => Sys2Proof.Machine.execLdIndDeA s
  | .ldAIndBc => Sys2Proof.Machine.execLdAIndBc s
  | .ldAIndDe => Sys2Proof.Machine.execLdAIndDe s
  | .incIndHl => Sys2Proof.Machine.execIncIndHl s
  | .decIndHl => Sys2Proof.Machine.execDecIndHl s
  | .rlca => Sys2Proof.Machine.execRlca s
  | .rrca => Sys2Proof.Machine.execRrca s
  | .rla => Sys2Proof.Machine.execRla s
  | .rra => Sys2Proof.Machine.execRra s
  | .exAfAfAlt => Sys2Proof.Machine.execExAfAfAlt s
  | .daa => Sys2Proof.Machine.execDaa s
  | .cpl => Sys2Proof.Machine.execCpl s
  | .scf => Sys2Proof.Machine.execScf s
  | .ccf => Sys2Proof.Machine.execCcf s
  | .halt => Sys2Proof.Machine.execHalt s
  | .addAIndHl => Sys2Proof.Machine.execAddAIndHl s
  | .adcAIndHl => Sys2Proof.Machine.execAdcAIndHl s
  | .subIndHl => Sys2Proof.Machine.execSubIndHl s
  | .sbcAIndHl => Sys2Proof.Machine.execSbcAIndHl s
  | .andIndHl => Sys2Proof.Machine.execAndIndHl s
  | .xorIndHl => Sys2Proof.Machine.execXorIndHl s
  | .orIndHl => Sys2Proof.Machine.execOrIndHl s
  | .cpIndHl => Sys2Proof.Machine.execCpIndHl s
  | .popAf => Sys2Proof.Machine.execPopAf s
  | .pushAf => Sys2Proof.Machine.execPushAf s
  | .ret => Sys2Proof.Machine.execRet s
  | .exx => Sys2Proof.Machine.execExx s
  | .exIndSpHl => Sys2Proof.Machine.execExIndSpHl s
  | .jpIndHl => Sys2Proof.Machine.execJpIndHl s
  | .exDeHl => Sys2Proof.Machine.execExDeHl s
  | .di => Sys2Proof.Machine.execDi s
  | .ei => Sys2Proof.Machine.execEi s
  | .ldSpHl => Sys2Proof.Machine.execLdSpHl s
  | .rlcIndHl => Sys2Proof.Machine.execRlcIndHl s
  | .rrcIndHl => Sys2Proof.Machine.execRrcIndHl s
  | .rlIndHl => Sys2Proof.Machine.execRlIndHl s
  | .rrIndHl => Sys2Proof.Machine.execRrIndHl s
  | .slaIndHl => Sys2Proof.Machine.execSlaIndHl s
  | .sraIndHl => Sys2Proof.Machine.execSraIndHl s
  | .srlIndHl => Sys2Proof.Machine.execSrlIndHl s
  | .ldIxIy => Sys2Proof.Machine.execLdIxIy s
  | .ldIyIx => Sys2Proof.Machine.execLdIyIx s
  | .cplw => Sys2Proof.Machine.execCplw s
  | .inwBcPortC => Sys2Proof.Machine.execInwBcPortC s
  | .inwDePortC => Sys2Proof.Machine.execInwDePortC s
  | .inwHlPortC => Sys2Proof.Machine.execInwHlPortC s
  | .outwPortCBc => Sys2Proof.Machine.execOutwPortCBc s
  | .outwPortCDe => Sys2Proof.Machine.execOutwPortCDe s
  | .outwPortCHl => Sys2Proof.Machine.execOutwPortCHl s
  | .ldIHl => Sys2Proof.Machine.execLdIHl s
  | .ldHlI => Sys2Proof.Machine.execLdHlI s
  | .ddirW => Sys2Proof.Machine.execDdirW s
  | .ddirIbW => Sys2Proof.Machine.execDdirIbW s
  | .ddirIwW => Sys2Proof.Machine.execDdirIwW s
  | .ddirIb => Sys2Proof.Machine.execDdirIb s
  | .ddirLw => Sys2Proof.Machine.execDdirLw s
  | .ddirIbLw => Sys2Proof.Machine.execDdirIbLw s
  | .ddirIwLw => Sys2Proof.Machine.execDdirIwLw s
  | .ddirIw => Sys2Proof.Machine.execDdirIw s
  | .ldctlSrA => Sys2Proof.Machine.execLdctlSrA s
  | .mtest => Sys2Proof.Machine.execMtest s
  | .ldctlAXsr => Sys2Proof.Machine.execLdctlAXsr s
  | .ldctlAYsr => Sys2Proof.Machine.execLdctlAYsr s
  | .ldctlXsrA => Sys2Proof.Machine.execLdctlXsrA s
  | .ldctlYsrA => Sys2Proof.Machine.execLdctlYsrA s
  | .exxx => Sys2Proof.Machine.execExxx s
  | .exxy => Sys2Proof.Machine.execExxy s
  | .setcLw => Sys2Proof.Machine.execSetcLw s
  | .rescLw => Sys2Proof.Machine.execRescLw s
  | .setcXm => Sys2Proof.Machine.execSetcXm s
  | .exBcIx => Sys2Proof.Machine.execExBcIx s
  | .exBcIy => Sys2Proof.Machine.execExBcIy s
  | .exDeIx => Sys2Proof.Machine.execExDeIx s
  | .exDeIy => Sys2Proof.Machine.execExDeIy s
  | .exHlIx => Sys2Proof.Machine.execExHlIx s
  | .exHlIy => Sys2Proof.Machine.execExHlIy s
  | .exIxIy => Sys2Proof.Machine.execExIxIy s
  | .tstIndHl => Sys2Proof.Machine.execTstIndHl s
  | .exBcDe => Sys2Proof.Machine.execExBcDe s
  | .exBcHl => Sys2Proof.Machine.execExBcHl s
  | .exAIndHl => Sys2Proof.Machine.execExAIndHl s
  | .neg => Sys2Proof.Machine.execNeg s
  | .negw => Sys2Proof.Machine.execNegw s
  | .retn => Sys2Proof.Machine.execRetn s
  | .reti => Sys2Proof.Machine.execReti s
  | .im0 => Sys2Proof.Machine.execIm0 s
  | .im1 => Sys2Proof.Machine.execIm1 s
  | .im2 => Sys2Proof.Machine.execIm2 s
  | .im3 => Sys2Proof.Machine.execIm3 s
  | .ldIA => Sys2Proof.Machine.execLdIA s
  | .ldRA => Sys2Proof.Machine.execLdRA s
  | .ldAI => Sys2Proof.Machine.execLdAI s
  | .ldAR => Sys2Proof.Machine.execLdAR s
  | .exts => Sys2Proof.Machine.execExts s
  | .extsw => Sys2Proof.Machine.execExtsw s
  | .rrd => Sys2Proof.Machine.execRrd s
  | .rld => Sys2Proof.Machine.execRld s
  | .slp => Sys2Proof.Machine.execSlp s
  | .otim => Sys2Proof.Machine.execOtim s
  | .otdm => Sys2Proof.Machine.execOtdm s
  | .otimr => Sys2Proof.Machine.execOtimr s
  | .otdmr => Sys2Proof.Machine.execOtdmr s
  | .ldi => Sys2Proof.Machine.execLdi s
  | .cpi => Sys2Proof.Machine.execCpi s
  | .ini => Sys2Proof.Machine.execIni s
  | .outi => Sys2Proof.Machine.execOuti s
  | .ldd => Sys2Proof.Machine.execLdd s
  | .cpd => Sys2Proof.Machine.execCpd s
  | .ind => Sys2Proof.Machine.execInd s
  | .outd => Sys2Proof.Machine.execOutd s
  | .ldir => Sys2Proof.Machine.execLdir s
  | .cpir => Sys2Proof.Machine.execCpir s
  | .inir => Sys2Proof.Machine.execInir s
  | .otir => Sys2Proof.Machine.execOtir s
  | .lddr => Sys2Proof.Machine.execLddr s
  | .cpdr => Sys2Proof.Machine.execCpdr s
  | .indr => Sys2Proof.Machine.execIndr s
  | .otdr => Sys2Proof.Machine.execOtdr s
  | .ldctlHlSr => Sys2Proof.Machine.execLdctlHlSr s
  | .ldctlSrHl => Sys2Proof.Machine.execLdctlSrHl s
  | .popSr => Sys2Proof.Machine.execPopSr s
  | .pushSr => Sys2Proof.Machine.execPushSr s
  | .btest => Sys2Proof.Machine.execBtest s
  | .ldctlADsr => Sys2Proof.Machine.execLdctlADsr s
  | .ldctlDsrA => Sys2Proof.Machine.execLdctlDsrA s
  | .exall => Sys2Proof.Machine.execExall s
  | .ldiw => Sys2Proof.Machine.execLdiw s
  | .lddw => Sys2Proof.Machine.execLddw s
  | .ldirw => Sys2Proof.Machine.execLdirw s
  | .lddrw => Sys2Proof.Machine.execLddrw s
  | .iniw => Sys2Proof.Machine.execIniw s
  | .indw => Sys2Proof.Machine.execIndw s
  | .inirw => Sys2Proof.Machine.execInirw s
  | .indrw => Sys2Proof.Machine.execIndrw s
  | .outiw => Sys2Proof.Machine.execOutiw s
  | .outdw => Sys2Proof.Machine.execOutdw s
  | .otirw => Sys2Proof.Machine.execOtirw s
  | .otdrw => Sys2Proof.Machine.execOtdrw s
  | .setcLck => Sys2Proof.Machine.execSetcLck s
  | .rescLck => Sys2Proof.Machine.execRescLck s
  | .exBcBcAlt => Sys2Proof.Machine.execExBcBcAlt s
  | .exDeDeAlt => Sys2Proof.Machine.execExDeDeAlt s
  | .exHlHlAlt => Sys2Proof.Machine.execExHlHlAlt s
  | .exIxIxAlt => Sys2Proof.Machine.execExIxIxAlt s
  | .exIyIyAlt => Sys2Proof.Machine.execExIyIyAlt s

end Sys2Proof.Machine
end

