-- ==== Sys2Proof/Machine/Interrupt.lean ====
section
/-! DEFINITION. What the environment does to the machine at an instruction boundary: RESET (R790), the sampling of the interrupt
inputs (R730, R731) and the entries of R735 to R745; the trap of R722. -/

namespace Sys2Proof.Machine

/-- R720: an event that diverts control. -/
inductive Event where
  | nmi
  | int (n : Fin 4)
  deriving DecidableEq, Repr

/-- What the environment presents at the boundary before this step. -/
def State.now (s : State) : Inputs := s.inputs.headD Inputs.quiet

/-- R730: the boundary passed: its inputs are used up, and an edge of /NMI is latched (log 14, 15); the step that begins has
written nothing yet (R120). -/
def State.sampled (s : State) : State :=
  { s with inputs := s.inputs.tail, nmiPending := s.nmiPending || s.now.nmi, written := [] }

/-- One step counted: the free values of the next step are other ones (log 12). -/
def State.tick (s : State) : State := { s with clock := s.clock + 1 }

/-- R790: RESET: every register as in `State.reset`, PC at `RESET_PC`; memory, the platform and the parameters stay (log 20). -/
def State.afterReset (s : State) : State :=
  { State.reset with
    pc := s.params.resetPc.setWidth 32
    mem := s.mem
    inputs := s.inputs
    portIn := s.portIn
    busLog := s.busLog
    clock := s.clock
    params := s.params }

/-- R730: the level of an input /INTn. -/
def Inputs.line (e : Inputs) (n : Fin 4) : Bool :=
  match n with
  | 0 => e.int0
  | 1 => e.int1
  | 2 => e.int2
  | 3 => e.int3

/-- R731: input /INTn asks and IER lets it. -/
def State.asked (s : State) (e : Inputs) (n : Fin 4) : Bool := e.line n && s.io.ier.getLsbD n.val

/-- R720, R731: the event taken at a boundary, if one is: none behind a directive; NMI first, whatever the enables say; then
the lowest-numbered maskable input, when IEF1 is set and no shadow of EI lies on the boundary. -/
def State.accepted (s : State) (e : Inputs) : Option Event :=
  if s.ddir.isSome then none
  else if s.nmiPending then some .nmi
  else if s.ief1 && !s.eiShadow then
    if s.asked e 0 then some (.int 0)
    else if s.asked e 1 then some (.int 1)
    else if s.asked e 2 then some (.int 2)
    else if s.asked e 3 then some (.int 3)
    else none
  else none

/-- R742: where mode 2 finds its entry: Iz, I and the 8-bit vector. -/
def State.mode2Address (s : State) (v : Word) : Long := ext16 s.ireg ++ hi8 s.ireg ++ wordLo v

/-- R743: where mode 3 finds its entry: Iz and the 16-bit vector. -/
def State.mode3Address (s : State) (v : Word) : Long := ext16 s.ireg ++ v

/-- R745: where /INT1 to /INT3 find their entries: Iz, AVBR[7:1], 0 and the offset of the input. -/
def State.assignedAddress (s : State) (k : Byte) : Long := ext16 s.ireg ++ s.io.avbr.extractLsb' 1 7 ++ 0#1 ++ k

/-- R740: mode 0 runs RST p or CALL nn from the data bus; the model gives anything else no meaning (D21, log 22). -/
def State.enterMode0 (s : State) (instr : List Byte) : Exec :=
  match instr with
  | [op] =>
    if op &&& 0xC7 = 0xC7 then .next (s.enterMaskable.setPc ((op &&& 0x38).setWidth 32)) else .refused .intackInstruction
  | [op, lo, hi] =>
    if op = 0xCD then .next (s.enterMaskable.setPc ((hi ++ lo).setWidth 32)) else .refused .intackInstruction
  | _ => .refused .intackInstruction

/-- R740 to R743: the entry of /INT0 in the mode SR.IM names. -/
def State.enterInt0 (s : State) (e : Inputs) : Exec :=
  if s.im = 0 then s.enterMode0 e.ackInstr
  else if s.im = 1 then .next (s.enterMaskable.setPc 0x38)
  else if s.im = 2 then .next (s.enterMaskable.vectorTo (s.mode2Address e.ackVector))
  else .next (s.enterMaskable.vectorTo (s.mode3Address e.ackVector))

/-- R735 to R745: the entry of an event. -/
def State.enterEvent (s : State) (e : Inputs) (ev : Event) : Exec :=
  match ev with
  | .nmi => .next s.enterNmi
  | .int 0 => s.enterInt0 e
  | .int 1 => .next (s.enterMaskable.vectorTo (s.assignedAddress 0x00))
  | .int 2 => .next (s.enterMaskable.vectorTo (s.assignedAddress 0x04))
  | .int 3 => .next (s.enterMaskable.vectorTo (s.assignedAddress 0x08))

/-- R768, R771: a stopped processor: nothing changes, but that a bus request ends standby where BRXT = 1 and LCK = 0
(log 23). -/
def State.idle (s : State) (e : Inputs) : State :=
  if s.standby && e.busReq && s.brxt && !s.lck then { s with standby := false } else s

/-- D18 (e): the address a trap saves: that of the directive in front, if there is one (log 38). -/
def State.trapReturn (s : State) : Long := if s.ddir.isSome then ringed s.xm (s.pc - 2) else s.pc

/-- R722: the flag of TRPBK set; the spec does not name its bit (log 17). -/
def trapFlagged (v : Byte) : Byte := v ||| (1#8 <<< Config.trapFlag.val)

/-- R722: the trap of an unassigned encoding, as `TRAP_ENTRY` says (log 2, 17). That the return address it pushes marks no
byte of the fetch window is the model's choice: R120 speaks of a store of the program (log 18). -/
def State.trap (s : State) : Exec :=
  match s.params.trapEntry with
  | .fault => .fault (.illegalInstruction s.pc)
  | .real =>
    let t := ((s.enter s.ief1 s.ief2 s.trapReturn).ioWrite 0x19 (trapFlagged s.io.trpbk)).setPc 0
    .next ((t.setDdir none).setEiShadow false).tick

end Sys2Proof.Machine
end

