-- ==== Sys2Proof/Machine/Cycle.lean ====
section
/-! DEFINITION. One step in the order of R19 (e): the boundary, the fetch, the decoding, the execution, and what follows it. -/

namespace Sys2Proof.Machine

/-- The next state of an answer changed; a stop stays as it is. -/
def onNext (x : Exec) (f : State → State) : Exec :=
  match x with
  | .next t => .next (f t)
  | .fault r => .fault r
  | .refused r => .refused r

/-- R105, R600: `n` bytes fetched from `a` on, in ascending order, inside the low 64 KiB in native mode. -/
def State.fetchFrom (s : State) (a : Long) : Nat → List Byte
  | 0 => []
  | n + 1 => s.fetchByte (ringed s.xm a) :: s.fetchFrom (a + 1) n

/-- R469: the bytes the pending directive adds. -/
def State.pendingExt (s : State) : Ext :=
  match s.ddir with
  | some d => d.ext
  | none => .zero

/-- R166: what the bytes at PC decode to. -/
def State.decoded (s : State) : Except DecodeError (Instr × List Byte) := decode s.pendingExt (s.fetchFrom s.pc maxLength)

/-- The addresses of `n` bytes from `a` on, as the fetch reaches them. -/
def fetchSpan (xm : Bool) (a : Long) : Nat → List Nat
  | 0 => []
  | n + 1 => (ringed xm a).toNat :: fetchSpan xm (a + 1) n

/-- R120: one of the `n` bytes at PC was written inside the fetch window. -/
def State.fetchesStale (s : State) (n : Nat) : Bool := (fetchSpan s.xm s.pc n).any (fun a => s.stale.contains a)

/-- R120: the bytes of the window after an instruction of `n` bytes at `s` that the step to `t` wrote, whatever they held. -/
def State.windowWrites (s t : State) (n : Nat) : List Nat :=
  (fetchSpan s.xm (s.pc + BitVec.ofNat 32 n) s.params.fetchWindow).filter (fun a => t.written.contains a)

/-- How many bytes of an encoding are executed when it is unassigned: those up to and with the opcode byte, `k` of R166. The
spec gives it no length; that these are the bytes R120 asks about is the model's choice (log 18). -/
def State.opcodeSpan (s : State) : Nat := opcodeLength s.pendingExt (s.fetchFrom s.pc maxLength)

/-- R460: the eight directives. -/
def isDirective (i : Instr) : Bool :=
  match i with
  | .ddirW => true
  | .ddirIbW => true
  | .ddirIwW => true
  | .ddirIb => true
  | .ddirLw => true
  | .ddirIbLw => true
  | .ddirIwLw => true
  | .ddirIw => true
  | _ => false

/-- R19 (e), item 4: EI, or an EI n that set IEF1. -/
def raisesShadow (i : Instr) : Bool :=
  match i with
  | .ei => true
  | .eiN n => n.getLsbD 0
  | _ => false

/-- R19 (e), item 4: what follows the execution of `i`, of `n` bytes, from `s` to `t`: a directive is used up, a shadow of EI
ends, the step counts, and bytes written inside the fetch window are marked (log 18). -/
def State.retire (s : State) (i : Instr) (n : Nat) (t : State) : State :=
  { t with
    ddir := if isDirective i then t.ddir else none
    eiShadow := if raisesShadow i then t.eiShadow else false
    clock := t.clock + 1
    stale := s.windowWrites t n ++ t.stale }

/-- R19 (e), item 4: decode at PC and execute; an unassigned encoding traps. Bytes written inside the fetch window are not
executed, of an unassigned encoding those up to its opcode byte (R120, log 18). -/
def State.runInstr (s : State) : Exec :=
  match s.decoded with
  | .ok (i, rest) =>
    if s.fetchesStale (maxLength - rest.length) then .refused .staleFetch
    else onNext (exec i s) (s.retire i (maxLength - rest.length))
  | .error _ => if s.fetchesStale s.opcodeSpan then .refused .staleFetch else s.trap

/-- R19 (e): one step. -/
def State.cycle (s : State) : Exec :=
  if s.now.reset then .next s.sampled.afterReset.tick
  else
    match s.sampled.accepted s.now with
    | some ev => onNext (s.sampled.enterEvent s.now ev) State.tick
    | none =>
      if s.sampled.halted || s.sampled.standby then .next (s.sampled.idle s.now).tick
      else s.sampled.runInstr

/-- Bytes put into memory one after the other from `a` on, where the fetch reaches them; nothing but memory changes. -/
def State.placeAt (s : State) (a : Long) : List Byte → State
  | [] => s
  | b :: bs => { s with mem := (s.writeByte (ringed s.xm a) b).mem }.placeAt (a + 1) bs

end Sys2Proof.Machine
end

