-- ==== Sys2Proof/Machine/Step.lean ====
section
/-! DEFINITION. The step of the machine, and the placing of one instruction where the step fetches next. -/

namespace Sys2Proof.Machine

/-- One step: R19 (e). -/
def step (s : State) : Host.Outcome State Fault Refusal := s.cycle

/-- `s` with the instruction of a table row's number stored at PC (log 19, 21). -/
def State.withFetchWord (s : State) (nbits w : Nat) : State := s.placeAt s.pc (tableBytes nbits w)

end Sys2Proof.Machine
end

