-- ==== Sys2Proof/Safety.lean ====
section
/-! DEFINITION. The terms of the claims: every register of the machine as a place that can be looked at, what an answer leaves
unchanged, and the states a run can be in. -/

namespace Sys2Proof.Machine

/-- A place that holds a register: R30, R51, each bank and set by itself. -/
inductive Loc where
  | gp (k : BitVec 2) (alt : Bool) (p : Pair)
  | a (k : BitVec 2) (alt : Bool)
  | f (k : BitVec 2) (alt : Bool)
  | idx (k : BitVec 2) (alt : Bool) (y : Idx)
  | pc
  | sp
  | ireg
  | r
  | sr
  | ief2
  | halted
  | standby
  | nmiPending
  | eiShadow
  | io (a : Byte)
  deriving DecidableEq, Repr

/-- What a place holds, as 32 bits. -/
def State.look (s : State) (l : Loc) : Long :=
  match l with
  | .gp k alt p => (s.gp.getIn k alt).get p
  | .a k alt => zext32 (s.af.getIn k alt).a
  | .f k alt => zext32 (s.af.getIn k alt).f
  | .idx k alt .ix => s.ix.getIn k alt
  | .idx k alt .iy => s.iy.getIn k alt
  | .pc => s.pc
  | .sp => s.sp
  | .ireg => s.ireg
  | .r => zext32 s.r
  | .sr => s.sr
  | .ief2 => zext32 (bit1 s.ief2)
  | .halted => zext32 (bit1 s.halted)
  | .standby => zext32 (bit1 s.standby)
  | .nmiPending => zext32 (bit1 s.nmiPending)
  | .eiShadow => zext32 (bit1 s.eiShadow)
  | .io a => zext32 ((s.io.get a).getD 0)

/-- The place of the selected BC, DE or HL (R33). -/
def State.locPair (s : State) (p : Pair) : Loc := .gp s.mainBank s.alt p

/-- The place of BC', DE' or HL'. -/
def State.locPairAlt (s : State) (p : Pair) : Loc := .gp s.mainBank (!s.alt) p

/-- The place of the selected A. -/
def State.locA (s : State) : Loc := .a s.mainBank s.afp

/-- The place of A'. -/
def State.locAAlt (s : State) : Loc := .a s.mainBank (!s.afp)

/-- The place of the selected F. -/
def State.locF (s : State) : Loc := .f s.mainBank s.afp

/-- The bank and the set of the selected IX or IY (R34). -/
def State.idxBank (s : State) (y : Idx) : BitVec 2 :=
  match y with
  | .ix => s.ixBank
  | .iy => s.iyBank

/-- The set of the selected IX or IY. -/
def State.idxSet (s : State) (y : Idx) : Bool :=
  match y with
  | .ix => s.ixp
  | .iy => s.iyp

/-- The place of the selected IX or IY. -/
def State.locIdx (s : State) (y : Idx) : Loc := .idx (s.idxBank y) (s.idxSet y) y

/-- The place of IX' or IY'. -/
def State.locIdxAlt (s : State) (y : Idx) : Loc := .idx (s.idxBank y) (!s.idxSet y) y

/-- The pair that holds an 8-bit register other than A. -/
def pairOf (r : Reg8) : Pair :=
  match r with
  | .b => .bc
  | .c => .bc
  | .d => .de
  | .e => .de
  | .h => .hl
  | .l => .hl
  | .a => .bc

/-- The place an 8-bit register lies in. -/
def State.locReg8 (s : State) (r : Reg8) : Loc := if r = .a then s.locA else s.locPair (pairOf r)

/-- The place of a pair of the field `dd`. -/
def State.locPair4 (s : State) (p : Pair4) : Loc :=
  match p with
  | .bc => s.locPair .bc
  | .de => s.locPair .de
  | .hl => s.locPair .hl
  | .sp => .sp

/-- What a pair holds after one of its bytes is written (R31): the rest of it stays. -/
def withByte (r : Reg8) (old : Long) (v : Byte) : Long :=
  match r with
  | .b => withHi8 old v
  | .c => withLo8 old v
  | .d => withHi8 old v
  | .e => withLo8 old v
  | .h => withHi8 old v
  | .l => withLo8 old v
  | .a => zext32 v

/-- Every register but those listed holds what it held. -/
def Unchanged (but : List Loc) (s t : State) : Prop := ∀ l : Loc, l ∉ but → t.look l = s.look l

/-- Every byte of memory reads as before. -/
def SameMem (s t : State) : Prop := ∀ a : Long, t.readByte a = s.readByte a

/-- Every byte of memory but the `n` bytes from `ea` on reads as before. -/
def SameMemBut (s t : State) (ea : Long) (n : Nat) : Prop :=
  ∀ a : Long, (∀ k, k < n → a ≠ ea + BitVec.ofNat 32 k) → t.readByte a = s.readByte a

/-- The `n` low bytes of `v` lie in memory from `ea` on, at each address that is RAM (R104). -/
def Stored (s t : State) (ea : Long) (n : Nat) (v : Long) : Prop :=
  ∀ k, k < n → s.kind (ea + BitVec.ofNat 32 k) = .ram → t.readByte (ea + BitVec.ofNat 32 k) = v.extractLsb' (8 * k) 8

/-- The step is answered by a next state with a property. -/
def Answers (x : Exec) (P : State → Prop) : Prop := ∃ t, x = .next t ∧ P t

/-- R36: the address after an instruction, by the length of its encoding. -/
def State.after (s : State) (i : Instr) : Long := ringed s.xm (s.pc + BitVec.ofNat 32 (encode i).length)

/-- What an instruction does, in the terms of the spec: the places it writes and their values; what it makes of the flags;
the bytes it stores; where it goes, if not past itself; the directive it leaves; what goes over the bus; and how many external
answers it uses. Everything else stays. -/
structure Effect where
  writes : List (Loc × Long) := []
  flags  : Option (Flags → Prop) := none
  store  : Option (Long × Nat × Long) := none
  goto   : Option Long := none
  ddir   : Option Ddir := none
  events : List BusEvent := []
  reads  : Nat := 0

/-- The places an effect writes, PC and F among them. -/
def Effect.places (e : Effect) (s : State) : List Loc :=
  .pc :: (e.writes.map Prod.fst ++ (match e.flags with | some _ => [s.locF] | none => []))

/-- An effect stores to no device. -/
def Effect.offDevices (e : Effect) (s : State) : Prop :=
  ∀ x, e.store = some x → ∀ k, k < x.2.1 → s.kind (x.1 + BitVec.ofNat 32 k) ≠ .device

/-- `t` is `s` after an effect, and differs from it in nothing else. -/
def HasEffect (s : State) (i : Instr) (e : Effect) (t : State) : Prop :=
  t.pc = e.goto.getD (s.after i) ∧
  (∀ w ∈ e.writes, t.look w.1 = w.2) ∧
  Unchanged (e.places s) s t ∧
  (∀ P, e.flags = some P → P t.flags) ∧
  (match e.store with
    | none => SameMem s t
    | some x => Stored s t x.1 x.2.1 x.2.2 ∧ SameMemBut s t x.1 x.2.1) ∧
  (t.ddir = match e.ddir with | some d => some d | none => s.ddir) ∧
  t.portIn = s.portIn.drop e.reads ∧
  (e.offDevices s → t.busLog = e.events ++ s.busLog) ∧
  t.inputs = s.inputs ∧ t.clock = s.clock ∧ t.stale = s.stale ∧ t.params = s.params

/-- The bits of SR that are printed 0 (R40). -/
def srReserved : Long := 0xF8F8F804

/-- The addresses of the internal I/O registers (R52). -/
def ioAddresses : List Byte := (List.range 26).map (BitVec.ofNat 8)

/-- The states a run can be in: memory in canonical form; the bits of SR and of the internal I/O registers that are printed 0
or `-` read 0 (R40, R109); in native mode the upper words of PC and SP are 0 (R36, R37). -/
def Invariant (s : State) : Prop :=
  s.mem.wf = true ∧
  s.sr &&& srReserved = 0 ∧
  (s.xm = false → ext16 s.pc = 0 ∧ ext16 s.sp = 0) ∧
  ∀ a ∈ ioAddresses, (s.io.get a).getD 0 &&& ~~~ioMask a = 0

/-! ## Results and flags in exact arithmetic -/

/-- The number of 1 bits is even (R14). -/
def parityEven {n : Nat} (v : BitVec n) : Bool := ((List.range n).filter v.getLsbD).length % 2 == 0

/-- R381, R482: a sum computed exactly and narrowed, with its flags: carries and the signed overflow as comparisons. -/
def exactAdd {n : Nat} (half : Nat) (a b : BitVec n) (c : Bool) : BitVec n × Flags :=
  let t := BitVec.ofNat n (a.toNat + b.toNat + c.toNat)
  let v := a.toInt + b.toInt + c.toNat
  (t,
    { s := decide (t.toInt < 0)
      z := decide (t.toNat = 0)
      h := decide (2 ^ half ≤ a.toNat % 2 ^ half + b.toNat % 2 ^ half + c.toNat)
      pv := decide (v < -2 ^ (n - 1) ∨ 2 ^ (n - 1) ≤ v)
      n := false
      c := decide (2 ^ n ≤ a.toNat + b.toNat + c.toNat) })

/-- R381, R482: a difference computed exactly and narrowed, with its flags: borrows and the signed overflow as comparisons. -/
def exactSub {n : Nat} (half : Nat) (a b : BitVec n) (c : Bool) : BitVec n × Flags :=
  let t := BitVec.ofInt n ((a.toNat : Int) - b.toNat - c.toNat)
  let v := a.toInt - b.toInt - c.toNat
  (t,
    { s := decide (t.toInt < 0)
      z := decide (t.toNat = 0)
      h := decide (a.toNat % 2 ^ half < b.toNat % 2 ^ half + c.toNat)
      pv := decide (v < -2 ^ (n - 1) ∨ 2 ^ (n - 1) ≤ v)
      n := true
      c := decide (a.toNat < b.toNat + c.toNat) })

/-- R381, R482: the flags of a logic result. -/
def exactLogic {n : Nat} (h : Bool) (t : BitVec n) : Flags where
  s := decide (t.toInt < 0)
  z := decide (t.toNat = 0)
  h := h
  pv := parityEven t
  n := false
  c := false

/-- R542: the flags of a rotate or shift with the bit shifted out. -/
def exactShift {n : Nat} (t : BitVec n) (cout : Bool) : Flags := { exactLogic false t with c := cout }

/-- R650: the flags of an input; C stays. -/
def exactInput {n : Nat} (old : Flags) (t : BitVec n) : Flags := { exactLogic false t with c := old.c }

/-- F becomes exactly these flags. -/
def flagsAre (fl : Flags) : Option (Flags → Prop) := some fun x => x = fl

/-! ## Writes of the usual places -/

/-- The bytes of an operand of the data format in force. -/
def State.formatBytes (s : State) : Nat := if s.lwEff then 4 else 2

/-- The bytes of an address of the mode (R621). -/
def State.modeBytes (s : State) : Nat := if s.xm then 4 else 2

/-- A write of an 8-bit register. -/
def State.put8 (s : State) (r : Reg8) (v : Byte) : Loc × Long := (s.locReg8 r, withByte r (s.pair (pairOf r)) v)

/-- A write of a half of an index register. -/
def State.putHalf (s : State) (y : Idx) (h : Half) (v : Byte) : Loc × Long :=
  (s.locIdx y, match h with | .u => withHi8 (s.idx y) v | .l => withLo8 (s.idx y) v)

/-- A `wr_W` of a pair (R15). -/
def State.putW (s : State) (p : Pair) (v : Long) : Loc × Long := (s.locPair p, wrW s.lwEff (s.pair p) v)

/-- A `wr_W` of an index register. -/
def State.putIdxW (s : State) (y : Idx) (v : Long) : Loc × Long := (s.locIdx y, wrW s.lwEff (s.idx y) v)

/-- A write of a pair of the field `dd`; SP keeps to the low 64 KiB in native mode (R37). -/
def State.put4 (s : State) (p : Pair4) (v : Long) : Loc × Long := (s.locPair4 p, if p = .sp then ringed s.xm v else v)

/-- A `wr_W` of a pair of the field `dd`. -/
def State.put4W (s : State) (p : Pair4) (v : Long) : Loc × Long := s.put4 p (wrW s.lwEff (s.pair4 p) v)

/-- A write of bits 15:0 of a pair. -/
def State.putLo (s : State) (p : Pair) (w : Word) : Loc × Long := (s.locPair p, withLo16 (s.pair p) w)

/-- A pointer stepped by `addr_add`. -/
def State.putStep (s : State) (p : Pair) (k : Long) : Loc × Long := (s.locPair p, addrAdd s.xm (s.pair p) k)

/-- Where SP points after a push of `n` bytes. -/
def State.spDown (s : State) (n : Nat) : Long := ringed s.xm (addrAdd s.xm s.sp (-BitVec.ofNat 32 n))

/-- Where SP points after a pop of `n` bytes. -/
def State.spUp (s : State) (n : Nat) : Long := ringed s.xm (addrAdd s.xm s.sp (BitVec.ofNat 32 n))

/-- A push of `n` bytes (R16). -/
def State.pushes (s : State) (n : Nat) (v : Long) : Effect :=
  { writes := [(.sp, s.spDown n)], store := some (s.spDown n, n, v) }

/-- A call: the return address on the stack in the width of the mode, PC at the target (R621). -/
def State.calls (s : State) (ret target : Long) : Effect :=
  { s.pushes s.modeBytes ret with goto := some (ringed s.xm target) }

/-- A return (R621, R624). -/
def State.returns (s : State) : Effect :=
  { writes := [(.sp, s.spUp s.modeBytes)], goto := some (ringed s.xm (s.readW s.xm s.sp)) }

/-- SR with the bits of a mask set or cleared. -/
def withSr (sr mask : Long) (on : Bool) : Long := if on then sr ||| mask else sr &&& ~~~mask

/-- SR with the bits of a mask taken from `v`, but for those printed 0 and XM (R444). -/
def legalSr (sr mask v : Long) : Long :=
  (sr &&& ~~~(mask &&& 0x0707077B)) ||| (v &&& (mask &&& 0x0707077B))

/-- Where a repeating instruction leaves PC: at itself while it goes on (R340). -/
def State.goesOn (s : State) (i : Instr) (again : Bool) : Option Long := some (if again then s.pc else s.after i)

/-! ## Steps and entries -/

/-- The bytes read as an instruction, whatever directive is pending and whatever follows them. -/
def ReadAs (bs : List Byte) (i : Instr) : Prop := ∀ (e : Ext) (rest : List Byte), decode e (bs ++ rest) = .ok (i, rest)

/-- No RESET and no interrupt is taken at the boundary before this step. -/
def State.quiet (s : State) : Prop := s.now.reset = false ∧ s.sampled.accepted s.now = none

/-- This step fetches: the boundary is quiet and the processor is not stopped. -/
def State.runs (s : State) : Prop := s.quiet ∧ s.halted = false ∧ s.standby = false

/-- This step runs `i`, `rest` being the bytes of the fetch past it: it fetches, what it fetches decodes to `i`, and none of
these bytes was written inside the fetch window (R120). -/
def State.runsInstr (s : State) (i : Instr) (rest : List Byte) : Prop :=
  s.runs ∧ decode s.pendingExt (s.fetchFrom s.pc maxLength) = .ok (i, rest) ∧
    s.fetchesStale (maxLength - rest.length) = false

/-- R735, R736: `u` is `s` after the part all interrupt entries share: HALT and standby ended, IEF1 clear, IEF2 as given, the
return address on the stack in the width of the mode; every other register and every other byte of memory as before. -/
def Entered (s : State) (ief2 : Bool) (u : State) : Prop :=
  u.halted = false ∧ u.standby = false ∧ u.ief2 = ief2 ∧ u.sr = withSr s.sr 0x20 false ∧
  u.sp = s.spDown s.modeBytes ∧
  Stored s u u.sp s.modeBytes s.pc ∧ SameMemBut s u u.sp s.modeBytes ∧
  Unchanged [.halted, .standby, .ief2, .sr, .sp, .nmiPending] s u ∧
  u.ddir = s.ddir ∧ u.portIn = s.portIn ∧ u.clock = s.clock ∧ u.params = s.params

/-- `t` is `s` after an interrupt entry: the shared part, then PC at a target that may be read from the memory it left; one
boundary's inputs and one step are used up. -/
def EntersAt (s : State) (ief2 : Bool) (target : State → Long) (t : State) : Prop :=
  ∃ u, Entered s ief2 u ∧ t.pc = target u ∧ (∀ l, l ≠ .pc → t.look l = u.look l) ∧ t.mem = u.mem ∧
    t.nmiPending = false ∧ t.ddir = none ∧ t.inputs = s.inputs.tail ∧ t.clock = s.clock + 1 ∧ t.params = s.params

/-- R33, R34: the place lies in a bank that SR selects, or in none. -/
def State.inBank (s : State) (l : Loc) : Bool :=
  match l with
  | .gp k _ _ => k == s.mainBank
  | .a k _ => k == s.mainBank
  | .f k _ => k == s.mainBank
  | .idx k _ y => k == s.idxBank y
  | .pc => true
  | .sp => true
  | .ireg => true
  | .r => true
  | .sr => true
  | .ief2 => true
  | .halted => true
  | .standby => true
  | .nmiPending => true
  | .eiShadow => true
  | .io _ => true

/-- Every byte of the stack slot that a push of `n` bytes uses is RAM. -/
def State.stackIsRam (s : State) (n : Nat) : Prop := ∀ k, k < n → s.kind (s.spDown n + BitVec.ofNat 32 k) = .ram

end Sys2Proof.Machine
end

