-- ==== Sys2Proof/Effects.lean ====
section
/-! DEFINITION. The effect of every instruction in the terms of the claims, one table per shape: what it writes, stores and
makes of the flags, in exact arithmetic where the spec computes. The statements for the provers say that `exec` has exactly
these effects. -/

namespace Sys2Proof.Machine

/-- R421: A and the flags after DAA, in exact arithmetic. -/
def decimalAdjust (a : Byte) (fl : Flags) : Byte × Flags :=
  let low := decide (fl.h = true ∨ 9 < a.toNat % 16)
  let high := decide (fl.c = true ∨ 0x99 < a.toNat)
  let corr := (if low then 6 else 0) + (if high then 0x60 else 0)
  let t := BitVec.ofInt 8 (if fl.n then (a.toNat : Int) - corr else (a.toNat : Int) + corr)
  (t, { exactLogic false t with
    h := if fl.n then decide (fl.h = true ∧ a.toNat % 16 < 6) else decide (9 < a.toNat % 16)
    n := fl.n
    c := high })

/-- R481, R484: the AW-bit sum; in native mode bits 31:16 stay. -/
def State.modeSum (s : State) (a b : Long) : Long := if s.xm then a + b else withLo16 a (lo16 a + lo16 b)

/-- R481, R492: the AW-bit difference; in native mode bits 31:16 stay. -/
def State.modeDiff (s : State) (a b : Long) : Long := if s.xm then a - b else withLo16 a (lo16 a - lo16 b)

/-- R482, D22: S, Z and P/V stay, N as given, H and C those of an exact operation; under `XM_ADD_FLAGS` = draw they are open
in extended mode. -/
def State.modeFlags (s : State) (n : Bool) (short wide : Flags) : Option (Flags → Prop) :=
  some fun x =>
    x.s = s.flags.s ∧ x.z = s.flags.z ∧ x.pv = s.flags.pv ∧ x.n = n ∧
    (s.xm = false ∨ s.params.xmAddFlags = .narrow → x.h = short.h ∧ x.c = short.c) ∧
    (s.xm = true ∧ s.params.xmAddFlags = .wide → x.h = wide.h ∧ x.c = wide.c)

/-- R484: the flags of an AW-bit addition. -/
def State.modeAdd (s : State) (a b : Long) : Option (Flags → Prop) :=
  s.modeFlags false (exactAdd 12 (lo16 a) (lo16 b) false).2 (exactAdd 12 a b false).2

/-- R492: the flags of an AW-bit subtraction. -/
def State.modeSub (s : State) (a b : Long) : Option (Flags → Prop) :=
  s.modeFlags true (exactSub 12 (lo16 a) (lo16 b) false).2 (exactSub 12 a b false).2

/-- D32: the flags of a multiplication: S and Z of the product, P/V = 0, H and N stay, C where `MULT_C_RULE` gives it. -/
def State.productFlags (s : State) (t : Long) (c : Bool) : Option (Flags → Prop) :=
  some fun x =>
    x.s = decide (t.toInt < 0) ∧ x.z = decide (t = 0) ∧ x.h = s.flags.h ∧ x.pv = false ∧ x.n = s.flags.n ∧
    (s.params.multCRule = .product → x.c = c)

/-- R511: HL takes the signed product of its low word and an operand; C says that it needs more than 16 signed bits. -/
def State.signedMultiply (s : State) (v : Word) : Effect :=
  let p := (lo16 (s.pair .hl)).toInt * v.toInt
  { writes := [(s.locPair .hl, BitVec.ofInt 32 p)]
    flags := s.productFlags (BitVec.ofInt 32 p) (decide (p < -2 ^ 15 ∨ 2 ^ 15 ≤ p)) }

/-- R512: HL takes the unsigned product of its low word and an operand; C says that it needs more than 16 bits. -/
def State.unsignedMultiply (s : State) (v : Word) : Effect :=
  let p := (lo16 (s.pair .hl)).toNat * v.toNat
  { writes := [(s.locPair .hl, BitVec.ofNat 32 p)]
    flags := s.productFlags (BitVec.ofNat 32 p) (decide (2 ^ 16 ≤ p)) }

/-- R513: the divisor is not 0 and the quotient fits in 16 bits. -/
def State.divides (s : State) (v : Word) : Bool := decide (v.toNat ≠ 0 ∧ (s.pair .hl).toNat / v.toNat < 2 ^ 16)

/-- R513: HL takes remainder and quotient of itself by an operand. -/
def State.unsignedDivide (s : State) (v : Word) : Effect :=
  let q := (s.pair .hl).toNat / v.toNat
  { writes := [(s.locPair .hl, BitVec.ofNat 32 ((s.pair .hl).toNat % v.toNat * 2 ^ 16 + q))]
    flags := flagsAre { s.flags with s := false, z := decide (q = 0), pv := false } }

/-- R513: the divisor of a division. -/
def State.divisor (s : State) (i : Instr) : Option Word :=
  match i with
  | .divuwHlWop x => some (s.wordOp x)
  | .divuwHlNn nn => some (lo16 (immValue nn))
  | .divuwHlIdxD y d => some (s.readWord (s.eaIdx y d))
  | _ => none

/-- A value shifted up by one, a bit coming in below. -/
def shiftedInLow {n : Nat} (v : BitVec n) (b : Bool) : BitVec n := BitVec.ofNat n (2 * v.toNat + b.toNat)

/-- A value shifted down by one, a bit coming in above. -/
def shiftedInHigh {n : Nat} (v : BitVec n) (b : Bool) : BitVec n := BitVec.ofNat n (v.toNat / 2 + b.toNat * 2 ^ (n - 1))

/-- A write of bits 15:0 of the register a word operand names. -/
def State.putWop (s : State) (x : WordOp) (w : Word) : Loc × Long :=
  match x with
  | .bc => s.putLo .bc w
  | .de => s.putLo .de w
  | .hl => s.putLo .hl w
  | .indHl => s.putLo .hl w
  | .ix => (s.locIdx .ix, withLo16 (s.idx .ix) w)
  | .iy => (s.locIdx .iy, withLo16 (s.idx .iy) w)

/-- A write of the primed twin of an 8-bit register. -/
def State.put8Alt (s : State) (r : Reg8) (v : Byte) : Loc × Long :=
  if r = .a then (s.locAAlt, zext32 v) else (s.locPairAlt (pairOf r), withByte r (s.pairAlt (pairOf r)) v)

/-- R279, R280: the flags of a load of A from I or R. -/
def State.interruptFlags (s : State) (v : Byte) : Flags where
  s := decide (v.toInt < 0)
  z := decide (v = 0)
  h := false
  pv := s.ief2
  n := false
  c := s.flags.c

/-- R341, R349: the flags of a block transfer that counts BC down by `n`. -/
def State.moveFlags (s : State) (n : Word) : Flags := { s.flags with h := false, pv := decide (s.count ≠ n), n := false }

/-- R345: the flags of a block search. -/
def State.searchFlags (s : State) : Flags :=
  { (exactSub 4 s.a (s.readByte (s.pair .hl)) false).2 with pv := decide (s.count ≠ 1), c := s.flags.c }

/-- R109: the internal register a write reaches and what it then holds; none where no register is named (U9, log 28). -/
def State.ioWrites (s : State) (a v : Byte) : List (Loc × Long) :=
  if (s.io.get a).isSome then [(.io a, zext32 (v &&& ioMask a))] else []

/-- R655, R670, R695 with D23, U1: Z and N after block input and output; the other flags are open (D27). -/
def blockFlags (z : Bool) : Option (Flags → Prop) := some fun x => x.z = z ∧ x.n = true

/-- R580: the flags after BIT of a bit that is `b`; S and P/V are open. -/
def State.bitTestFlags (s : State) (b : Bool) : Option (Flags → Prop) :=
  some fun x => x.z = !b ∧ x.h = true ∧ x.n = false ∧ x.c = s.flags.c

/-- Flags with C as it was. -/
def State.keepC (s : State) (fl : Flags) : Flags := { fl with c := s.flags.c }

/-- R456: the flags after BTEST. -/
def State.bankFlags (s : State) : Flags :=
  { s.flags with s := s.sr.getLsbD 16, z := s.sr.getLsbD 24, pv := s.sr.getLsbD 0, c := s.sr.getLsbD 8 }

/-- A word rotate or shift with its result in a register or, for `(HL)`, in memory (R560). -/
def State.turns (s : State) (x : WordOp) (v : Word) (cout : Bool) : Effect :=
  if x = .indHl then { flags := flagsAre (exactShift v cout), store := some (s.pair .hl, 2, zext32 v) }
  else { writes := [s.putWop x v], flags := flagsAre (exactShift v cout) }

/-- R202 to R222, R447: the loads of 8-bit registers and of index halves. -/
def State.loadByteEffect (s : State) (i : Instr) : Option Effect :=
  match i with
  | .ldRR r r' => some { writes := [s.put8 r (s.reg8 r')] }
  | .ldRN r n => some { writes := [s.put8 r n] }
  | .ldRIndHl r => some { writes := [s.put8 r (s.readByte (s.pair .hl))] }
  | .ldRIdxD r y d => some { writes := [s.put8 r (s.readByte (s.eaIdx y d))] }
  | .ldAIndBc => some { writes := [s.put8 .a (s.readByte (s.pair .bc))] }
  | .ldAIndDe => some { writes := [s.put8 .a (s.readByte (s.pair .de))] }
  | .ldADirNn nn => some { writes := [s.put8 .a (s.readByte (immValue nn))] }
  | .ldHalfN y h n => some { writes := [s.putHalf y h n] }
  | .ldHalfS y h src => some { writes := [s.putHalf y h (s.halfSrc y src)] }
  | .ldRHalf r y h => some { writes := [s.put8 r (s.half y h)] }
  | .ldctlADsr => some { writes := [s.put8 .a (s.sr.extractLsb' 8 8)] }
  | .ldctlAXsr => some { writes := [s.put8 .a (s.sr.extractLsb' 16 8)] }
  | .ldctlAYsr => some { writes := [s.put8 .a (s.sr.extractLsb' 24 8)] }
  | _ => none

/-- R206 to R219: the stores of a byte. -/
def State.storeByteEffect (s : State) (i : Instr) : Option Effect :=
  match i with
  | .ldIndHlR r => some { store := some (s.pair .hl, 1, zext32 (s.reg8 r)) }
  | .ldIdxDR y d r => some { store := some (s.eaIdx y d, 1, zext32 (s.reg8 r)) }
  | .ldIndHlN n => some { store := some (s.pair .hl, 1, zext32 n) }
  | .ldIdxDN y d n => some { store := some (s.eaIdx y d, 1, zext32 n) }
  | .ldIndBcA => some { store := some (s.pair .bc, 1, zext32 s.a) }
  | .ldIndDeA => some { store := some (s.pair .de, 1, zext32 s.a) }
  | .ldDirNnA nn => some { store := some (immValue nn, 1, zext32 s.a) }
  | _ => none

/-- R214 to R217, R279, R280: the loads of I, Iz and R, and from them. -/
def State.interruptRegisterEffect (s : State) (i : Instr) : Option Effect :=
  match i with
  | .ldAI => some { writes := [s.put8 .a (hi8 s.ireg)], flags := flagsAre (s.interruptFlags (hi8 s.ireg)) }
  | .ldIA => some { writes := [(.ireg, withHi8 s.ireg s.a)] }
  | .ldRA => some { writes := [(.r, zext32 s.a)] }
  | .ldAR =>
    some
      { writes := [s.put8 .a (Config.drawR s.clock)]
        flags := flagsAre (s.interruptFlags (Config.drawR s.clock)) }
  | .ldIHl => some { writes := [(.ireg, wrW s.lwEff s.ireg (s.pair .hl))] }
  | .ldHlI => some { writes := [s.putW .hl s.ireg] }
  | _ => none

/-- R253 to R274, R434, R435, R445: the loads of pairs, index registers and SP in the data format in force. -/
def State.loadWideEffect (s : State) (i : Instr) : Option Effect :=
  match i with
  | .ldDdNn dd nn => some { writes := [s.put4W dd (immValue nn)] }
  | .ldXyNn y nn => some { writes := [s.putIdxW y (immValue nn)] }
  | .ldHlDirNn nn => some { writes := [s.putW .hl (s.readW s.lwEff (immValue nn))] }
  | .ldDdDirNn dd nn => some { writes := [s.put4W dd (s.readW s.lwEff (immValue nn))] }
  | .ldXyDirNn y nn => some { writes := [s.putIdxW y (s.readW s.lwEff (immValue nn))] }
  | .ldSpHl => some { writes := [s.put4W .sp (s.pair .hl)] }
  | .ldSpXy y => some { writes := [s.put4W .sp (s.idx y)] }
  | .ldPpIndUu pp uu => some { writes := [s.putW pp (s.readW s.lwEff (s.pair uu))] }
  | .ldPpBc pp => some { writes := [s.putW pp (s.pair .bc)] }
  | .ldPpDe pp => some { writes := [s.putW pp (s.pair .de)] }
  | .ldPpHl pp => some { writes := [s.putW pp (s.pair .hl)] }
  | .ldXyPp y pp => some { writes := [s.putIdxW y (s.pair pp)] }
  | .ldPpXy pp y => some { writes := [s.putW pp (s.idx y)] }
  | .ldIxIy => some { writes := [s.putIdxW .ix (s.idx .iy)] }
  | .ldIyIx => some { writes := [s.putIdxW .iy (s.idx .ix)] }
  | .ldXyIndPp y pp => some { writes := [s.putIdxW y (s.readW s.lwEff (s.pair pp))] }
  | .ldPpIdxD pp y d => some { writes := [s.putW pp (s.readW s.lwEff (s.eaIdx y d))] }
  | .ldYxIdxD y d => some { writes := [s.putIdxW (otherIdx y) (s.readW s.lwEff (s.eaIdx y d))] }
  | .ldPpSpD pp d => some { writes := [s.putW pp (s.readW s.lwEff (s.eaSp d))] }
  | .ldXySpD y d => some { writes := [s.putIdxW y (s.readW s.lwEff (s.eaSp d))] }
  | .exts => some { writes := [s.putW .hl (BitVec.ofInt 32 s.a.toInt)] }
  | .extsw => some { writes := [(s.locPair .hl, BitVec.ofInt 32 (lo16 (s.pair .hl)).toInt)] }
  | .ldctlHlSr => some { writes := [s.putW .hl s.sr] }
  | _ => none

/-- R258 to R278: the stores of pairs, index registers and immediate data in the data format in force. -/
def State.storeWideEffect (s : State) (i : Instr) : Option Effect :=
  match i with
  | .ldDirNnHl nn => some { store := some (immValue nn, s.formatBytes, (s.pair .hl)) }
  | .ldDirNnDd nn dd => some { store := some (immValue nn, s.formatBytes, s.pair4 dd) }
  | .ldDirNnXy nn y => some { store := some (immValue nn, s.formatBytes, s.idx y) }
  | .ldIndPpNn pp nn => some { store := some (s.pair pp, s.formatBytes, immValue nn) }
  | .ldIndPpUu pp uu => some { store := some (s.pair pp, s.formatBytes, s.pair uu) }
  | .ldIndPpXy pp y => some { store := some (s.pair pp, s.formatBytes, s.idx y) }
  | .ldIdxDPp y d pp => some { store := some (s.eaIdx y d, s.formatBytes, s.pair pp) }
  | .ldIdxDYx y d => some { store := some (s.eaIdx y d, s.formatBytes, s.idx (otherIdx y)) }
  | .ldSpDPp d pp => some { store := some (s.eaSp d, s.formatBytes, s.pair pp) }
  | .ldSpDXy d y => some { store := some (s.eaSp d, s.formatBytes, s.idx y) }
  | _ => none

/-- R286 to R288, R292, R294: the pushes. -/
def State.pushEffect (s : State) (i : Instr) : Option Effect :=
  match i with
  | .pushQq qq => some (s.pushes s.formatBytes (s.pair qq))
  | .pushAf => some (s.pushes s.formatBytes (zext32 (s.a ++ s.f)))
  | .pushXy y => some (s.pushes s.formatBytes (s.idx y))
  | .pushSr => some (s.pushes s.formatBytes s.sr)
  | .pushNn nn => some (s.pushes s.formatBytes (immValue nn))
  | _ => none

/-- R289 to R291, R293: the pops. -/
def State.popEffect (s : State) (i : Instr) : Option Effect :=
  match i with
  | .popQq qq => some { writes := [(.sp, s.spUp s.formatBytes), s.putW qq (s.readW s.lwEff s.sp)] }
  | .popXy y => some { writes := [(.sp, s.spUp s.formatBytes), s.putIdxW y (s.readW s.lwEff s.sp)] }
  | .popAf =>
    some
      { writes := [(.sp, s.spUp s.formatBytes), s.put8 .a (hi8 (s.readW s.lwEff s.sp)), (s.locF,
            zext32 (lo8 (s.readW s.lwEff s.sp)))] }
  | .popSr =>
    some
      { writes := [(.sp, s.spUp s.formatBytes), (.sr, if s.lwEff then legalSr s.sr 0xFFFFFF7F (s.readW s.lwEff
            s.sp) else legalSr s.sr 0xFFFFFF7F ((s.readW s.lwEff s.sp) ||| ((s.readW s.lwEff s.sp) &&& 0xFF00) <<<
            8 ||| ((s.readW s.lwEff s.sp) &&& 0xFF00) <<< 16))] }
  | _ => none

/-- R321, R322, R331 to R333: the set switches: SR changes, no register value moves. -/
def State.switchEffect (s : State) (i : Instr) : Option Effect :=
  match i with
  | .exx => some { writes := [(.sr, s.sr ^^^ 0x100)] }
  | .exAfAfAlt => some { writes := [(.sr, s.sr ^^^ 1)] }
  | .exall => some { writes := [(.sr, s.sr ^^^ 0x1010100)] }
  | .exxx => some { writes := [(.sr, s.sr ^^^ 0x10000)] }
  | .exxy => some { writes := [(.sr, s.sr ^^^ 0x1000000)] }
  | _ => none

/-- R323 to R339: the exchanges of values. -/
def State.exchangeEffect (s : State) (i : Instr) : Option Effect :=
  match i with
  | .exDeHl => some { writes := [s.putW .de (s.pair .hl), s.putW .hl (s.pair .de)] }
  | .exBcDe => some { writes := [s.putW .bc (s.pair .de), s.putW .de (s.pair .bc)] }
  | .exBcHl => some { writes := [s.putW .bc (s.pair .hl), s.putW .hl (s.pair .bc)] }
  | .exBcIx => some { writes := [s.putW .bc (s.idx .ix), s.putIdxW .ix (s.pair .bc)] }
  | .exBcIy => some { writes := [s.putW .bc (s.idx .iy), s.putIdxW .iy (s.pair .bc)] }
  | .exDeIx => some { writes := [s.putW .de (s.idx .ix), s.putIdxW .ix (s.pair .de)] }
  | .exDeIy => some { writes := [s.putW .de (s.idx .iy), s.putIdxW .iy (s.pair .de)] }
  | .exHlIx => some { writes := [s.putW .hl (s.idx .ix), s.putIdxW .ix (s.pair .hl)] }
  | .exHlIy => some { writes := [s.putW .hl (s.idx .iy), s.putIdxW .iy (s.pair .hl)] }
  | .exIxIy => some { writes := [s.putIdxW .ix (s.idx .iy), s.putIdxW .iy (s.idx .ix)] }
  | .exBcBcAlt =>
    some
      { writes := [s.putW .bc (s.pairAlt .bc), (s.locPairAlt .bc, wrW s.lwEff (s.pairAlt .bc) (s.pair .bc))] }
  | .exDeDeAlt =>
    some
      { writes := [s.putW .de (s.pairAlt .de), (s.locPairAlt .de, wrW s.lwEff (s.pairAlt .de) (s.pair .de))] }
  | .exHlHlAlt =>
    some
      { writes := [s.putW .hl (s.pairAlt .hl), (s.locPairAlt .hl, wrW s.lwEff (s.pairAlt .hl) (s.pair .hl))] }
  | .exIxIxAlt =>
    some
      { writes := [s.putIdxW .ix (s.idxAlt .ix), (s.locIdxAlt .ix, wrW s.lwEff (s.idxAlt .ix) (s.idx .ix))] }
  | .exIyIyAlt =>
    some
      { writes := [s.putIdxW .iy (s.idxAlt .iy), (s.locIdxAlt .iy, wrW s.lwEff (s.idxAlt .iy) (s.idx .iy))] }
  | .exAR r => some { writes := [s.put8 .a (s.reg8 r), s.put8 r s.a] }
  | .exRRAlt r => some { writes := [s.put8 r (s.reg8Alt r), s.put8Alt r (s.reg8 r)] }
  | .exAIndHl => some { writes := [s.put8 .a (s.readByte (s.pair .hl))], store := some (s.pair .hl, 1, zext32 s.a) }
  | .exIndSpHl =>
    some
      { writes := [s.putW .hl (s.readW s.lwEff s.sp)]
        store := some (s.sp, s.formatBytes, (s.pair .hl)) }
  | .exIndSpXy y =>
    some
      { writes := [s.putIdxW y (s.readW s.lwEff s.sp)]
        store := some (s.sp, s.formatBytes, s.idx y) }
  | .swapPp pp => some { writes := [(s.locPair pp, s.pair pp <<< 16 ||| s.pair pp >>> 16)] }
  | .swapXy y => some { writes := [(s.locIdx y, s.idx y <<< 16 ||| s.idx y >>> 16)] }
  | _ => none

/-- R341 to R344: the block transfers of bytes. -/
def State.transferEffect (s : State) (i : Instr) : Option Effect :=
  match i with
  | .ldi =>
    some
      { writes := [s.putStep .de 1, s.putStep .hl 1, s.putLo .bc (s.count - 1)]
        flags := flagsAre (s.moveFlags 1)
        store := some (s.pair .de, 1, zext32 (s.readByte (s.pair .hl))) }
  | .ldd =>
    some
      { writes := [s.putStep .de (-1), s.putStep .hl (-1), s.putLo .bc (s.count - 1)]
        flags := flagsAre (s.moveFlags 1)
        store := some (s.pair .de, 1, zext32 (s.readByte (s.pair .hl))) }
  | .ldir =>
    some
      { writes := [s.putStep .de 1, s.putStep .hl 1, s.putLo .bc (s.count - 1)]
        flags := flagsAre (s.moveFlags 1)
        store := some (s.pair .de, 1, zext32 (s.readByte (s.pair .hl)))
        goto := s.goesOn i (decide (s.count ≠ 1)) }
  | .lddr =>
    some
      { writes := [s.putStep .de (-1), s.putStep .hl (-1), s.putLo .bc (s.count - 1)]
        flags := flagsAre (s.moveFlags 1)
        store := some (s.pair .de, 1, zext32 (s.readByte (s.pair .hl)))
        goto := s.goesOn i (decide (s.count ≠ 1)) }
  | _ => none

/-- R345 to R348: the block searches. -/
def State.searchEffect (s : State) (i : Instr) : Option Effect :=
  match i with
  | .cpi => some { writes := [s.putStep .hl 1, s.putLo .bc (s.count - 1)], flags := flagsAre s.searchFlags }
  | .cpd => some { writes := [s.putStep .hl (-1), s.putLo .bc (s.count - 1)], flags := flagsAre s.searchFlags }
  | .cpir =>
    some
      { writes := [s.putStep .hl 1, s.putLo .bc (s.count - 1)]
        flags := flagsAre s.searchFlags
        goto := s.goesOn i (decide (s.count ≠ 1 ∧ s.a ≠ (s.readByte (s.pair .hl)))) }
  | .cpdr =>
    some
      { writes := [s.putStep .hl (-1), s.putLo .bc (s.count - 1)]
        flags := flagsAre s.searchFlags
        goto := s.goesOn i (decide (s.count ≠ 1 ∧ s.a ≠ (s.readByte (s.pair .hl)))) }
  | _ => none

/-- R349 to R352: the block transfers of words, at even addresses. -/
def State.wordTransferEffect (s : State) (i : Instr) : Option Effect :=
  match i with
  | .ldiw =>
    some
      { writes := [s.putStep .de (BitVec.ofNat 32 s.formatBytes), s.putStep .hl (BitVec.ofNat 32 s.formatBytes),
            s.putLo .bc (s.count - BitVec.ofNat 16 s.formatBytes)]
        flags := flagsAre (s.moveFlags (BitVec.ofNat 16 s.formatBytes))
        store := some (s.pair .de, s.formatBytes, s.readW s.lwEff (s.pair .hl)) }
  | .lddw =>
    some
      { writes := [s.putStep .de (-BitVec.ofNat 32 s.formatBytes), s.putStep .hl (-BitVec.ofNat 32 s.formatBytes),
            s.putLo .bc (s.count - BitVec.ofNat 16 s.formatBytes)]
        flags := flagsAre (s.moveFlags (BitVec.ofNat 16 s.formatBytes))
        store := some (s.pair .de, s.formatBytes, s.readW s.lwEff (s.pair .hl)) }
  | .ldirw =>
    some
      { writes := [s.putStep .de (BitVec.ofNat 32 s.formatBytes), s.putStep .hl (BitVec.ofNat 32 s.formatBytes),
            s.putLo .bc (s.count - BitVec.ofNat 16 s.formatBytes)]
        flags := flagsAre (s.moveFlags (BitVec.ofNat 16 s.formatBytes))
        store := some (s.pair .de, s.formatBytes, s.readW s.lwEff (s.pair .hl))
        goto := s.goesOn i (decide (s.count ≠ BitVec.ofNat 16 s.formatBytes)) }
  | .lddrw =>
    some
      { writes := [s.putStep .de (-BitVec.ofNat 32 s.formatBytes), s.putStep .hl (-BitVec.ofNat 32 s.formatBytes),
            s.putLo .bc (s.count - BitVec.ofNat 16 s.formatBytes)]
        flags := flagsAre (s.moveFlags (BitVec.ofNat 16 s.formatBytes))
        store := some (s.pair .de, s.formatBytes, s.readW s.lwEff (s.pair .hl))
        goto := s.goesOn i (decide (s.count ≠ BitVec.ofNat 16 s.formatBytes)) }
  | _ => none

/-- R382 to R385, R389: 8-bit addition, subtraction and comparison. -/
def State.arithmetic8Effect (s : State) (i : Instr) : Option Effect :=
  match i with
  | .addAR r =>
    some
      { writes := [s.put8 .a (exactAdd 4 s.a (s.reg8 r) false).1]
        flags := flagsAre (exactAdd 4 s.a (s.reg8 r) false).2 }
  | .addAN n =>
    some
      { writes := [s.put8 .a (exactAdd 4 s.a n false).1]
        flags := flagsAre (exactAdd 4 s.a n false).2 }
  | .addAIndHl =>
    some
      { writes := [s.put8 .a (exactAdd 4 s.a (s.readByte (s.pair .hl)) false).1]
        flags := flagsAre (exactAdd 4 s.a (s.readByte (s.pair .hl)) false).2 }
  | .addAIdxD y d =>
    some
      { writes := [s.put8 .a (exactAdd 4 s.a (s.readByte (s.eaIdx y d)) false).1]
        flags := flagsAre (exactAdd 4 s.a (s.readByte (s.eaIdx y d)) false).2 }
  | .addAHalf y h =>
    some
      { writes := [s.put8 .a (exactAdd 4 s.a (s.half y h) false).1]
        flags := flagsAre (exactAdd 4 s.a (s.half y h) false).2 }
  | .adcAR r =>
    some
      { writes := [s.put8 .a (exactAdd 4 s.a (s.reg8 r) s.carry).1]
        flags := flagsAre (exactAdd 4 s.a (s.reg8 r) s.carry).2 }
  | .adcAN n =>
    some
      { writes := [s.put8 .a (exactAdd 4 s.a n s.carry).1]
        flags := flagsAre (exactAdd 4 s.a n s.carry).2 }
  | .adcAIndHl =>
    some
      { writes := [s.put8 .a (exactAdd 4 s.a (s.readByte (s.pair .hl)) s.carry).1]
        flags := flagsAre (exactAdd 4 s.a (s.readByte (s.pair .hl)) s.carry).2 }
  | .adcAIdxD y d =>
    some
      { writes := [s.put8 .a (exactAdd 4 s.a (s.readByte (s.eaIdx y d)) s.carry).1]
        flags := flagsAre (exactAdd 4 s.a (s.readByte (s.eaIdx y d)) s.carry).2 }
  | .adcAHalf y h =>
    some
      { writes := [s.put8 .a (exactAdd 4 s.a (s.half y h) s.carry).1]
        flags := flagsAre (exactAdd 4 s.a (s.half y h) s.carry).2 }
  | .subR r =>
    some
      { writes := [s.put8 .a (exactSub 4 s.a (s.reg8 r) false).1]
        flags := flagsAre (exactSub 4 s.a (s.reg8 r) false).2 }
  | .subN n => some { writes := [s.put8 .a (exactSub 4 s.a n false).1], flags := flagsAre (exactSub 4 s.a n false).2 }
  | .subIndHl =>
    some
      { writes := [s.put8 .a (exactSub 4 s.a (s.readByte (s.pair .hl)) false).1]
        flags := flagsAre (exactSub 4 s.a (s.readByte (s.pair .hl)) false).2 }
  | .subIdxD y d =>
    some
      { writes := [s.put8 .a (exactSub 4 s.a (s.readByte (s.eaIdx y d)) false).1]
        flags := flagsAre (exactSub 4 s.a (s.readByte (s.eaIdx y d)) false).2 }
  | .subHalf y h =>
    some
      { writes := [s.put8 .a (exactSub 4 s.a (s.half y h) false).1]
        flags := flagsAre (exactSub 4 s.a (s.half y h) false).2 }
  | .sbcAR r =>
    some
      { writes := [s.put8 .a (exactSub 4 s.a (s.reg8 r) s.carry).1]
        flags := flagsAre (exactSub 4 s.a (s.reg8 r) s.carry).2 }
  | .sbcAN n =>
    some
      { writes := [s.put8 .a (exactSub 4 s.a n s.carry).1]
        flags := flagsAre (exactSub 4 s.a n s.carry).2 }
  | .sbcAIndHl =>
    some
      { writes := [s.put8 .a (exactSub 4 s.a (s.readByte (s.pair .hl)) s.carry).1]
        flags := flagsAre (exactSub 4 s.a (s.readByte (s.pair .hl)) s.carry).2 }
  | .sbcAIdxD y d =>
    some
      { writes := [s.put8 .a (exactSub 4 s.a (s.readByte (s.eaIdx y d)) s.carry).1]
        flags := flagsAre (exactSub 4 s.a (s.readByte (s.eaIdx y d)) s.carry).2 }
  | .sbcAHalf y h =>
    some
      { writes := [s.put8 .a (exactSub 4 s.a (s.half y h) s.carry).1]
        flags := flagsAre (exactSub 4 s.a (s.half y h) s.carry).2 }
  | .cpR r => some { flags := flagsAre (exactSub 4 s.a (s.reg8 r) false).2 }
  | .cpN n => some { flags := flagsAre (exactSub 4 s.a n false).2 }
  | .cpIndHl => some { flags := flagsAre (exactSub 4 s.a (s.readByte (s.pair .hl)) false).2 }
  | .cpIdxD y d => some { flags := flagsAre (exactSub 4 s.a (s.readByte (s.eaIdx y d)) false).2 }
  | .cpHalf y h => some { flags := flagsAre (exactSub 4 s.a (s.half y h) false).2 }
  | _ => none

/-- R386 to R388, R393 to R395: 8-bit logic and TST. -/
def State.logic8Effect (s : State) (i : Instr) : Option Effect :=
  match i with
  | .andR r =>
    some
      { writes := [s.put8 .a (s.a &&& (s.reg8 r))]
        flags := flagsAre (exactLogic true (s.a &&& (s.reg8 r))) }
  | .andN n => some { writes := [s.put8 .a (s.a &&& n)], flags := flagsAre (exactLogic true (s.a &&& n)) }
  | .andIndHl =>
    some
      { writes := [s.put8 .a (s.a &&& (s.readByte (s.pair .hl)))]
        flags := flagsAre (exactLogic true (s.a &&& (s.readByte (s.pair .hl)))) }
  | .andIdxD y d =>
    some
      { writes := [s.put8 .a (s.a &&& (s.readByte (s.eaIdx y d)))]
        flags := flagsAre (exactLogic true (s.a &&& (s.readByte (s.eaIdx y d)))) }
  | .andHalf y h =>
    some
      { writes := [s.put8 .a (s.a &&& (s.half y h))]
        flags := flagsAre (exactLogic true (s.a &&& (s.half y h))) }
  | .xorR r =>
    some
      { writes := [s.put8 .a (s.a ^^^ (s.reg8 r))]
        flags := flagsAre (exactLogic false (s.a ^^^ (s.reg8 r))) }
  | .xorN n => some { writes := [s.put8 .a (s.a ^^^ n)], flags := flagsAre (exactLogic false (s.a ^^^ n)) }
  | .xorIndHl =>
    some
      { writes := [s.put8 .a (s.a ^^^ (s.readByte (s.pair .hl)))]
        flags := flagsAre (exactLogic false (s.a ^^^ (s.readByte (s.pair .hl)))) }
  | .xorIdxD y d =>
    some
      { writes := [s.put8 .a (s.a ^^^ (s.readByte (s.eaIdx y d)))]
        flags := flagsAre (exactLogic false (s.a ^^^ (s.readByte (s.eaIdx y d)))) }
  | .xorHalf y h =>
    some
      { writes := [s.put8 .a (s.a ^^^ (s.half y h))]
        flags := flagsAre (exactLogic false (s.a ^^^ (s.half y h))) }
  | .orR r =>
    some
      { writes := [s.put8 .a (s.a ||| (s.reg8 r))]
        flags := flagsAre (exactLogic false (s.a ||| (s.reg8 r))) }
  | .orN n => some { writes := [s.put8 .a (s.a ||| n)], flags := flagsAre (exactLogic false (s.a ||| n)) }
  | .orIndHl =>
    some
      { writes := [s.put8 .a (s.a ||| (s.readByte (s.pair .hl)))]
        flags := flagsAre (exactLogic false (s.a ||| (s.readByte (s.pair .hl)))) }
  | .orIdxD y d =>
    some
      { writes := [s.put8 .a (s.a ||| (s.readByte (s.eaIdx y d)))]
        flags := flagsAre (exactLogic false (s.a ||| (s.readByte (s.eaIdx y d)))) }
  | .orHalf y h =>
    some
      { writes := [s.put8 .a (s.a ||| (s.half y h))]
        flags := flagsAre (exactLogic false (s.a ||| (s.half y h))) }
  | .tstR r => some { flags := flagsAre (exactLogic true (s.a &&& (s.reg8 r))) }
  | .tstN n => some { flags := flagsAre (exactLogic true (s.a &&& n)) }
  | .tstIndHl => some { flags := flagsAre (exactLogic true (s.a &&& (s.readByte (s.pair .hl)))) }
  | _ => none

/-- R390 to R392: INC and DEC of bytes: the flags of an addition or subtraction of 1, but C stays. -/
def State.count8Effect (s : State) (i : Instr) : Option Effect :=
  match i with
  | .incR r =>
    some
      { writes := [s.put8 r (exactAdd 4 (s.reg8 r) 1 false).1]
        flags := flagsAre (s.keepC (exactAdd 4 (s.reg8 r) 1 false).2) }
  | .incIndHl =>
    some
      { flags := flagsAre (s.keepC (exactAdd 4 (s.readByte (s.pair .hl)) 1 false).2)
        store := some (s.pair .hl, 1, zext32 (exactAdd 4 (s.readByte (s.pair .hl)) 1 false).1) }
  | .incIdxD y d =>
    some
      { flags := flagsAre (s.keepC (exactAdd 4 (s.readByte (s.eaIdx y d)) 1 false).2)
        store := some (s.eaIdx y d, 1, zext32 (exactAdd 4 (s.readByte (s.eaIdx y d)) 1 false).1) }
  | .incHalf y h =>
    some
      { writes := [s.putHalf y h (exactAdd 4 (s.half y h) 1 false).1]
        flags := flagsAre (s.keepC (exactAdd 4 (s.half y h) 1 false).2) }
  | .decR r =>
    some
      { writes := [s.put8 r (exactSub 4 (s.reg8 r) 1 false).1]
        flags := flagsAre (s.keepC (exactSub 4 (s.reg8 r) 1 false).2) }
  | .decIndHl =>
    some
      { flags := flagsAre (s.keepC (exactSub 4 (s.readByte (s.pair .hl)) 1 false).2)
        store := some (s.pair .hl, 1, zext32 (exactSub 4 (s.readByte (s.pair .hl)) 1 false).1) }
  | .decIdxD y d =>
    some
      { flags := flagsAre (s.keepC (exactSub 4 (s.readByte (s.eaIdx y d)) 1 false).2)
        store := some (s.eaIdx y d, 1, zext32 (exactSub 4 (s.readByte (s.eaIdx y d)) 1 false).1) }
  | .decHalf y h =>
    some
      { writes := [s.putHalf y h (exactSub 4 (s.half y h) 1 false).1]
        flags := flagsAre (s.keepC (exactSub 4 (s.half y h) 1 false).2) }
  | _ => none

/-- R421 to R425, R431, R432: DAA, complement, negation and the carry. -/
def State.accumulatorEffect (s : State) (i : Instr) : Option Effect :=
  match i with
  | .daa =>
    some
      { writes := [s.put8 .a (decimalAdjust s.a s.flags).1]
        flags := flagsAre (decimalAdjust s.a s.flags).2 }
  | .cpl => some { writes := [s.put8 .a (~~~s.a)], flags := flagsAre { s.flags with h := true, n := true } }
  | .neg => some { writes := [s.put8 .a (exactSub 4 0 s.a false).1], flags := flagsAre (exactSub 4 0 s.a false).2 }
  | .ccf => some { flags := flagsAre { s.flags with h := s.flags.c, n := false, c := !s.flags.c } }
  | .scf => some { flags := flagsAre { s.flags with h := false, n := false, c := true } }
  | .cplw =>
    some
      { writes := [s.putLo .hl (~~~lo16 (s.pair .hl))]
        flags := flagsAre { s.flags with h := true, n := true } }
  | .negw =>
    let v := lo16 (s.pair .hl)
    some
      { writes := [s.putLo .hl (exactSub 12 0 v false).1]
        flags := flagsAre { (exactSub 12 0 v false).2 with h := decide (v.extractLsb' 0 4 ≠ 0) } }
  | _ => none

/-- R426 to R430, R436 to R440: the instructions that control the processor. -/
def State.controlEffect (s : State) (i : Instr) : Option Effect :=
  match i with
  | .nop => some { writes := [] }
  | .halt => some { writes := [(.halted, 1)] }
  | .slp => some (if s.stby then { writes := [(.standby, 1)] } else { writes := [(.halted, 1)] })
  | .di => some { writes := [(.sr, withSr s.sr 0x20 false), (.ief2, 0)] }
  | .ei => some { writes := [(.sr, withSr s.sr 0x20 true), (.ief2, 1), (.eiShadow, 1)] }
  | .im0 => some { writes := [(.sr, (s.sr &&& ~~~0x18) ||| 0x0)] }
  | .im1 => some { writes := [(.sr, (s.sr &&& ~~~0x18) ||| 0x8)] }
  | .im2 => some { writes := [(.sr, (s.sr &&& ~~~0x18) ||| 0x10)] }
  | .im3 => some { writes := [(.sr, (s.sr &&& ~~~0x18) ||| 0x18)] }
  | .diN n =>
    some
      { writes := (.io 0x17, zext32 (s.io.ier &&& ~~~n &&& 0x0F)) :: if n.getLsbD 0 then [(.sr,
            withSr s.sr 0x20 false), (.ief2, 0)] else [] }
  | .eiN n =>
    some
      { writes := (.io 0x17, zext32 ((s.io.ier ||| n) &&& 0x0F)) :: if n.getLsbD 0 then [(.sr,
            withSr s.sr 0x20 true), (.ief2, 1), (.eiShadow, 1)] else [] }
  | _ => none

/-- R442 to R455: the writes of SR by LDCTL, SETC and RESC. -/
def State.selectRegisterEffect (s : State) (i : Instr) : Option Effect :=
  match i with
  | .ldctlSrA => some { writes := [(.sr, legalSr s.sr 0xFFFFFF00 (zext32 s.a * 0x1010100))] }
  | .ldctlSrN n => some { writes := [(.sr, legalSr s.sr 0xFFFFFF00 (zext32 n * 0x1010100))] }
  | .ldctlSrHl =>
    some
      { writes := [(.sr, legalSr s.sr 0xFFFFFF01 (if s.lwEff then s.pair .hl else (zext32 (hi8 (s.pair .hl)) *
            0x1010100 ||| zext32 (lo8 (s.pair .hl)))))] }
  | .ldctlDsrA => some { writes := [(.sr, legalSr s.sr 0x0000FF00 (zext32 s.a <<< 8))] }
  | .ldctlDsrN n => some { writes := [(.sr, legalSr s.sr 0x0000FF00 (zext32 n <<< 8))] }
  | .ldctlXsrA => some { writes := [(.sr, legalSr s.sr 0x00FF0000 (zext32 s.a <<< 16))] }
  | .ldctlXsrN n => some { writes := [(.sr, legalSr s.sr 0x00FF0000 (zext32 n <<< 16))] }
  | .ldctlYsrA => some { writes := [(.sr, legalSr s.sr 0xFF000000 (zext32 s.a <<< 24))] }
  | .ldctlYsrN n => some { writes := [(.sr, legalSr s.sr 0xFF000000 (zext32 n <<< 24))] }
  | .setcXm => some { writes := [(.sr, withSr s.sr 0x80 true)] }
  | .setcLck => some { writes := [(.sr, withSr s.sr 2 true)] }
  | .rescLck => some { writes := [(.sr, withSr s.sr 2 false)] }
  | .setcLw => some { writes := [(.sr, withSr s.sr 0x40 true)] }
  | .rescLw => some { writes := [(.sr, withSr s.sr 0x40 false)] }
  | _ => none

/-- R456, R457: BTEST and MTEST. -/
def State.selectTestEffect (s : State) (i : Instr) : Option Effect :=
  match i with
  | .btest => some { flags := flagsAre s.bankFlags }
  | .mtest =>
    some
      { flags := flagsAre { s.flags with s := s.sr.getLsbD 7, z := s.sr.getLsbD 6, c := s.sr.getLsbD 1 } }
  | _ => none

/-- R460 to R468: the decoder directives. -/
def State.directiveEffect (_s : State) (i : Instr) : Option Effect :=
  match i with
  | .ddirW => some { ddir := some ⟨some false, .zero⟩ }
  | .ddirIbW => some { ddir := some ⟨some false, .ib⟩ }
  | .ddirIwW => some { ddir := some ⟨some false, .iw⟩ }
  | .ddirIb => some { ddir := some ⟨none, .ib⟩ }
  | .ddirLw => some { ddir := some ⟨some true, .zero⟩ }
  | .ddirIbLw => some { ddir := some ⟨some true, .ib⟩ }
  | .ddirIwLw => some { ddir := some ⟨some true, .iw⟩ }
  | .ddirIw => some { ddir := some ⟨none, .iw⟩ }
  | _ => none

/-- R484, R487 to R492, R501, R502: the arithmetic whose width follows the mode. -/
def State.addressArithmeticEffect (s : State) (i : Instr) : Option Effect :=
  match i with
  | .addHlDd dd =>
    some
      { writes := [(s.locPair .hl, s.modeSum (s.pair .hl) (s.pair4 dd))]
        flags := s.modeAdd (s.pair .hl) (s.pair4 dd) }
  | .addXyTt y tt =>
    some
      { writes := [(s.locIdx y, s.modeSum (s.idx y) (s.addSrc y tt))]
        flags := s.modeAdd (s.idx y) (s.addSrc y tt) }
  | .addHlDirNn nn =>
    some
      { writes := [(s.locPair .hl, s.modeSum (s.pair .hl) (s.readW s.xm (immValue nn)))]
        flags := s.modeAdd (s.pair .hl) (s.readW s.xm (immValue nn)) }
  | .subHlDirNn nn =>
    some
      { writes := [(s.locPair .hl, s.modeDiff (s.pair .hl) (s.readW s.xm (immValue nn)))]
        flags := s.modeSub (s.pair .hl) (s.readW s.xm (immValue nn)) }
  | .addSpNn nn =>
    some
      { writes := [s.put4 .sp (s.modeSum s.sp (immValue nn))]
        flags := s.modeAdd s.sp (immValue nn) }
  | .subSpNn nn =>
    some
      { writes := [s.put4 .sp (s.modeDiff s.sp (immValue nn))]
        flags := s.modeSub s.sp (immValue nn) }
  | .incDd dd => some { writes := [s.put4 dd (s.modeSum (s.pair4 dd) 1)] }
  | .decDd dd => some { writes := [s.put4 dd (s.modeDiff (s.pair4 dd) 1)] }
  | .incXy y => some { writes := [(s.locIdx y, s.modeSum (s.idx y) 1)] }
  | .decXy y => some { writes := [(s.locIdx y, s.modeDiff (s.idx y) 1)] }
  | _ => none

/-- R485, R486, R493 to R496, R500: 16-bit addition, subtraction and comparison on HL. -/
def State.arithmetic16Effect (s : State) (i : Instr) : Option Effect :=
  match i with
  | .adcHlDd dd =>
    some
      { writes := [s.putLo .hl (exactAdd 12 (lo16 (s.pair .hl)) (lo16 (s.pair4 dd)) s.carry).1]
        flags := flagsAre (exactAdd 12 (lo16 (s.pair .hl)) (lo16 (s.pair4 dd)) s.carry).2 }
  | .sbcHlDd dd =>
    some
      { writes := [s.putLo .hl (exactSub 12 (lo16 (s.pair .hl)) (lo16 (s.pair4 dd)) s.carry).1]
        flags := flagsAre (exactSub 12 (lo16 (s.pair .hl)) (lo16 (s.pair4 dd)) s.carry).2 }
  | .addwHlPp pp =>
    some
      { writes := [s.putLo .hl (exactAdd 12 (lo16 (s.pair .hl)) (lo16 (s.pair pp)) false).1]
        flags := flagsAre (exactAdd 12 (lo16 (s.pair .hl)) (lo16 (s.pair pp)) false).2 }
  | .addwHlNn nn =>
    some
      { writes := [s.putLo .hl (exactAdd 12 (lo16 (s.pair .hl)) (lo16 (immValue nn)) false).1]
        flags := flagsAre (exactAdd 12 (lo16 (s.pair .hl)) (lo16 (immValue nn)) false).2 }
  | .addwHlXy y =>
    some
      { writes := [s.putLo .hl (exactAdd 12 (lo16 (s.pair .hl)) (lo16 (s.idx y)) false).1]
        flags := flagsAre (exactAdd 12 (lo16 (s.pair .hl)) (lo16 (s.idx y)) false).2 }
  | .addwHlIdxD y d =>
    some
      { writes := [s.putLo .hl (exactAdd 12 (lo16 (s.pair .hl)) (s.readWord (s.eaIdx y d)) false).1]
        flags := flagsAre (exactAdd 12 (lo16 (s.pair .hl)) (s.readWord (s.eaIdx y d)) false).2 }
  | .adcwHlPp pp =>
    some
      { writes := [s.putLo .hl (exactAdd 12 (lo16 (s.pair .hl)) (lo16 (s.pair pp)) s.carry).1]
        flags := flagsAre (exactAdd 12 (lo16 (s.pair .hl)) (lo16 (s.pair pp)) s.carry).2 }
  | .adcwHlNn nn =>
    some
      { writes := [s.putLo .hl (exactAdd 12 (lo16 (s.pair .hl)) (lo16 (immValue nn)) s.carry).1]
        flags := flagsAre (exactAdd 12 (lo16 (s.pair .hl)) (lo16 (immValue nn)) s.carry).2 }
  | .adcwHlXy y =>
    some
      { writes := [s.putLo .hl (exactAdd 12 (lo16 (s.pair .hl)) (lo16 (s.idx y)) s.carry).1]
        flags := flagsAre (exactAdd 12 (lo16 (s.pair .hl)) (lo16 (s.idx y)) s.carry).2 }
  | .adcwHlIdxD y d =>
    some
      { writes := [s.putLo .hl (exactAdd 12 (lo16 (s.pair .hl)) (s.readWord (s.eaIdx y d)) s.carry).1]
        flags := flagsAre (exactAdd 12 (lo16 (s.pair .hl)) (s.readWord (s.eaIdx y d)) s.carry).2 }
  | .subwHlPp pp =>
    some
      { writes := [s.putLo .hl (exactSub 12 (lo16 (s.pair .hl)) (lo16 (s.pair pp)) false).1]
        flags := flagsAre (exactSub 12 (lo16 (s.pair .hl)) (lo16 (s.pair pp)) false).2 }
  | .subwHlNn nn =>
    some
      { writes := [s.putLo .hl (exactSub 12 (lo16 (s.pair .hl)) (lo16 (immValue nn)) false).1]
        flags := flagsAre (exactSub 12 (lo16 (s.pair .hl)) (lo16 (immValue nn)) false).2 }
  | .subwHlXy y =>
    some
      { writes := [s.putLo .hl (exactSub 12 (lo16 (s.pair .hl)) (lo16 (s.idx y)) false).1]
        flags := flagsAre (exactSub 12 (lo16 (s.pair .hl)) (lo16 (s.idx y)) false).2 }
  | .subwHlIdxD y d =>
    some
      { writes := [s.putLo .hl (exactSub 12 (lo16 (s.pair .hl)) (s.readWord (s.eaIdx y d)) false).1]
        flags := flagsAre (exactSub 12 (lo16 (s.pair .hl)) (s.readWord (s.eaIdx y d)) false).2 }
  | .sbcwHlPp pp =>
    some
      { writes := [s.putLo .hl (exactSub 12 (lo16 (s.pair .hl)) (lo16 (s.pair pp)) s.carry).1]
        flags := flagsAre (exactSub 12 (lo16 (s.pair .hl)) (lo16 (s.pair pp)) s.carry).2 }
  | .sbcwHlNn nn =>
    some
      { writes := [s.putLo .hl (exactSub 12 (lo16 (s.pair .hl)) (lo16 (immValue nn)) s.carry).1]
        flags := flagsAre (exactSub 12 (lo16 (s.pair .hl)) (lo16 (immValue nn)) s.carry).2 }
  | .sbcwHlXy y =>
    some
      { writes := [s.putLo .hl (exactSub 12 (lo16 (s.pair .hl)) (lo16 (s.idx y)) s.carry).1]
        flags := flagsAre (exactSub 12 (lo16 (s.pair .hl)) (lo16 (s.idx y)) s.carry).2 }
  | .sbcwHlIdxD y d =>
    some
      { writes := [s.putLo .hl (exactSub 12 (lo16 (s.pair .hl)) (s.readWord (s.eaIdx y d)) s.carry).1]
        flags := flagsAre (exactSub 12 (lo16 (s.pair .hl)) (s.readWord (s.eaIdx y d)) s.carry).2 }
  | .cpwHlPp pp => some { flags := flagsAre (exactSub 12 (lo16 (s.pair .hl)) (lo16 (s.pair pp)) false).2 }
  | .cpwHlNn nn => some { flags := flagsAre (exactSub 12 (lo16 (s.pair .hl)) (lo16 (immValue nn)) false).2 }
  | .cpwHlXy y => some { flags := flagsAre (exactSub 12 (lo16 (s.pair .hl)) (lo16 (s.idx y)) false).2 }
  | .cpwHlIdxD y d => some { flags := flagsAre (exactSub 12 (lo16 (s.pair .hl)) (s.readWord (s.eaIdx y d)) false).2 }
  | _ => none

/-- R497 to R499: 16-bit logic on HL. -/
def State.logic16Effect (s : State) (i : Instr) : Option Effect :=
  match i with
  | .andwHlPp pp =>
    some
      { writes := [s.putLo .hl ((lo16 (s.pair .hl)) &&& (lo16 (s.pair pp)))]
        flags := flagsAre (exactLogic true ((lo16 (s.pair .hl)) &&& (lo16 (s.pair pp)))) }
  | .andwHlNn nn =>
    some
      { writes := [s.putLo .hl ((lo16 (s.pair .hl)) &&& (lo16 (immValue nn)))]
        flags := flagsAre (exactLogic true ((lo16 (s.pair .hl)) &&& (lo16 (immValue nn)))) }
  | .andwHlXy y =>
    some
      { writes := [s.putLo .hl ((lo16 (s.pair .hl)) &&& (lo16 (s.idx y)))]
        flags := flagsAre (exactLogic true ((lo16 (s.pair .hl)) &&& (lo16 (s.idx y)))) }
  | .andwHlIdxD y d =>
    some
      { writes := [s.putLo .hl ((lo16 (s.pair .hl)) &&& (s.readWord (s.eaIdx y d)))]
        flags := flagsAre (exactLogic true ((lo16 (s.pair .hl)) &&& (s.readWord (s.eaIdx y d)))) }
  | .xorwHlPp pp =>
    some
      { writes := [s.putLo .hl ((lo16 (s.pair .hl)) ^^^ (lo16 (s.pair pp)))]
        flags := flagsAre (exactLogic false ((lo16 (s.pair .hl)) ^^^ (lo16 (s.pair pp)))) }
  | .xorwHlNn nn =>
    some
      { writes := [s.putLo .hl ((lo16 (s.pair .hl)) ^^^ (lo16 (immValue nn)))]
        flags := flagsAre (exactLogic false ((lo16 (s.pair .hl)) ^^^ (lo16 (immValue nn)))) }
  | .xorwHlXy y =>
    some
      { writes := [s.putLo .hl ((lo16 (s.pair .hl)) ^^^ (lo16 (s.idx y)))]
        flags := flagsAre (exactLogic false ((lo16 (s.pair .hl)) ^^^ (lo16 (s.idx y)))) }
  | .xorwHlIdxD y d =>
    some
      { writes := [s.putLo .hl ((lo16 (s.pair .hl)) ^^^ (s.readWord (s.eaIdx y d)))]
        flags := flagsAre (exactLogic false ((lo16 (s.pair .hl)) ^^^ (s.readWord (s.eaIdx y d)))) }
  | .orwHlPp pp =>
    some
      { writes := [s.putLo .hl ((lo16 (s.pair .hl)) ||| (lo16 (s.pair pp)))]
        flags := flagsAre (exactLogic false ((lo16 (s.pair .hl)) ||| (lo16 (s.pair pp)))) }
  | .orwHlNn nn =>
    some
      { writes := [s.putLo .hl ((lo16 (s.pair .hl)) ||| (lo16 (immValue nn)))]
        flags := flagsAre (exactLogic false ((lo16 (s.pair .hl)) ||| (lo16 (immValue nn)))) }
  | .orwHlXy y =>
    some
      { writes := [s.putLo .hl ((lo16 (s.pair .hl)) ||| (lo16 (s.idx y)))]
        flags := flagsAre (exactLogic false ((lo16 (s.pair .hl)) ||| (lo16 (s.idx y)))) }
  | .orwHlIdxD y d =>
    some
      { writes := [s.putLo .hl ((lo16 (s.pair .hl)) ||| (s.readWord (s.eaIdx y d)))]
        flags := flagsAre (exactLogic false ((lo16 (s.pair .hl)) ||| (s.readWord (s.eaIdx y d)))) }
  | _ => none

/-- R510 to R512: MLT, MULTW and MULTUW. -/
def State.multiplyEffect (s : State) (i : Instr) : Option Effect :=
  match i with
  | .mltDd dd =>
    some
      { writes := [s.put4 dd (withLo16 (s.pair4 dd) (BitVec.ofNat 16 ((hi8 (s.pair4 dd)).toNat * (lo8 (s.pair4
            dd)).toNat)))] }
  | .multwHlWop x => some (s.signedMultiply (s.wordOp x))
  | .multwHlNn nn => some (s.signedMultiply (lo16 (immValue nn)))
  | .multwHlIdxD y d => some (s.signedMultiply (s.readWord (s.eaIdx y d)))
  | .multuwHlWop x => some (s.unsignedMultiply (s.wordOp x))
  | .multuwHlNn nn => some (s.unsignedMultiply (lo16 (immValue nn)))
  | .multuwHlIdxD y d => some (s.unsignedMultiply (s.readWord (s.eaIdx y d)))
  | _ => none

/-- R513: DIVUW, where the divisor is not 0 and the quotient fits in 16 bits. -/
def State.divideEffect (s : State) (i : Instr) : Option Effect :=
  match i with
  | .divuwHlWop x =>
    if s.divides (s.wordOp x) then
      some (s.unsignedDivide (s.wordOp x))
    else none
  | .divuwHlNn nn =>
    if s.divides (lo16 (immValue nn)) then
      some (s.unsignedDivide (lo16 (immValue nn)))
    else none
  | .divuwHlIdxD y d =>
    if s.divides (s.readWord (s.eaIdx y d)) then
      some (s.unsignedDivide (s.readWord (s.eaIdx y d)))
    else none
  | _ => none

/-- R543 to R553: 8-bit rotates and shifts. -/
def State.rotateEffect (s : State) (i : Instr) : Option Effect :=
  match i with
  | .rlcR r =>
    some
      { writes := [s.put8 r ((s.reg8 r).rotateLeft 1)]
        flags := flagsAre (exactShift ((s.reg8 r).rotateLeft 1) (s.reg8 r).msb) }
  | .rlcIndHl =>
    some
      { flags := flagsAre (exactShift ((s.readByte (s.pair .hl)).rotateLeft 1) (s.readByte (s.pair .hl)).msb)
        store := some (s.pair .hl, 1, zext32 ((s.readByte (s.pair .hl)).rotateLeft 1)) }
  | .rlcIdxD y d =>
    some
      { flags := flagsAre (exactShift ((s.readByte (s.eaIdx y d)).rotateLeft 1) (s.readByte (s.eaIdx y d)).msb)
        store := some (s.eaIdx y d, 1, zext32 ((s.readByte (s.eaIdx y d)).rotateLeft 1)) }
  | .rrcR r =>
    some
      { writes := [s.put8 r ((s.reg8 r).rotateRight 1)]
        flags := flagsAre (exactShift ((s.reg8 r).rotateRight 1) ((s.reg8 r).getLsbD 0)) }
  | .rrcIndHl =>
    some
      { flags := flagsAre (exactShift ((s.readByte (s.pair .hl)).rotateRight 1) ((s.readByte (s.pair .hl)).getLsbD 0))
        store := some (s.pair .hl, 1, zext32 ((s.readByte (s.pair .hl)).rotateRight 1)) }
  | .rrcIdxD y d =>
    some
      { flags := flagsAre (exactShift ((s.readByte (s.eaIdx y d)).rotateRight 1) ((s.readByte (s.eaIdx y
            d)).getLsbD 0))
        store := some (s.eaIdx y d, 1, zext32 ((s.readByte (s.eaIdx y d)).rotateRight 1)) }
  | .rlR r =>
    some
      { writes := [s.put8 r (shiftedInLow (s.reg8 r) s.carry)]
        flags := flagsAre (exactShift (shiftedInLow (s.reg8 r) s.carry) (s.reg8 r).msb) }
  | .rlIndHl =>
    some
      { flags := flagsAre (exactShift (shiftedInLow (s.readByte (s.pair .hl)) s.carry) (s.readByte (s.pair .hl)).msb)
        store := some (s.pair .hl, 1, zext32 (shiftedInLow (s.readByte (s.pair .hl)) s.carry)) }
  | .rlIdxD y d =>
    some
      { flags := flagsAre (exactShift (shiftedInLow (s.readByte (s.eaIdx y d)) s.carry) (s.readByte (s.eaIdx y
            d)).msb)
        store := some (s.eaIdx y d, 1, zext32 (shiftedInLow (s.readByte (s.eaIdx y d)) s.carry)) }
  | .rrR r =>
    some
      { writes := [s.put8 r (shiftedInHigh (s.reg8 r) s.carry)]
        flags := flagsAre (exactShift (shiftedInHigh (s.reg8 r) s.carry) ((s.reg8 r).getLsbD 0)) }
  | .rrIndHl =>
    some
      { flags := flagsAre (exactShift (shiftedInHigh (s.readByte (s.pair .hl)) s.carry) ((s.readByte (s.pair
            .hl)).getLsbD 0))
        store := some (s.pair .hl, 1, zext32 (shiftedInHigh (s.readByte (s.pair .hl)) s.carry)) }
  | .rrIdxD y d =>
    some
      { flags := flagsAre (exactShift (shiftedInHigh (s.readByte (s.eaIdx y d)) s.carry) ((s.readByte (s.eaIdx y
            d)).getLsbD 0))
        store := some (s.eaIdx y d, 1, zext32 (shiftedInHigh (s.readByte (s.eaIdx y d)) s.carry)) }
  | .slaR r =>
    some
      { writes := [s.put8 r (shiftedInLow (s.reg8 r) false)]
        flags := flagsAre (exactShift (shiftedInLow (s.reg8 r) false) (s.reg8 r).msb) }
  | .slaIndHl =>
    some
      { flags := flagsAre (exactShift (shiftedInLow (s.readByte (s.pair .hl)) false) (s.readByte (s.pair .hl)).msb)
        store := some (s.pair .hl, 1, zext32 (shiftedInLow (s.readByte (s.pair .hl)) false)) }
  | .slaIdxD y d =>
    some
      { flags := flagsAre (exactShift (shiftedInLow (s.readByte (s.eaIdx y d)) false) (s.readByte (s.eaIdx y d)).msb)
        store := some (s.eaIdx y d, 1, zext32 (shiftedInLow (s.readByte (s.eaIdx y d)) false)) }
  | .sraR r =>
    some
      { writes := [s.put8 r (shiftedInHigh (s.reg8 r) (s.reg8 r).msb)]
        flags := flagsAre (exactShift (shiftedInHigh (s.reg8 r) (s.reg8 r).msb) ((s.reg8 r).getLsbD 0)) }
  | .sraIndHl =>
    some
      { flags := flagsAre (exactShift (shiftedInHigh (s.readByte (s.pair .hl)) (s.readByte (s.pair .hl)).msb)
            ((s.readByte (s.pair .hl)).getLsbD 0))
        store := some (s.pair .hl, 1, zext32 (shiftedInHigh (s.readByte (s.pair .hl)) (s.readByte (s.pair
            .hl)).msb)) }
  | .sraIdxD y d =>
    some
      { flags := flagsAre (exactShift (shiftedInHigh (s.readByte (s.eaIdx y d)) (s.readByte (s.eaIdx y d)).msb)
            ((s.readByte (s.eaIdx y d)).getLsbD 0))
        store := some (s.eaIdx y d, 1, zext32 (shiftedInHigh (s.readByte (s.eaIdx y d)) (s.readByte (s.eaIdx y
            d)).msb)) }
  | .srlR r =>
    some
      { writes := [s.put8 r (shiftedInHigh (s.reg8 r) false)]
        flags := flagsAre (exactShift (shiftedInHigh (s.reg8 r) false) ((s.reg8 r).getLsbD 0)) }
  | .srlIndHl =>
    some
      { flags := flagsAre (exactShift (shiftedInHigh (s.readByte (s.pair .hl)) false) ((s.readByte (s.pair
            .hl)).getLsbD 0))
        store := some (s.pair .hl, 1, zext32 (shiftedInHigh (s.readByte (s.pair .hl)) false)) }
  | .srlIdxD y d =>
    some
      { flags := flagsAre (exactShift (shiftedInHigh (s.readByte (s.eaIdx y d)) false) ((s.readByte (s.eaIdx y
            d)).getLsbD 0))
        store := some (s.eaIdx y d, 1, zext32 (shiftedInHigh (s.readByte (s.eaIdx y d)) false)) }
  | .rlca =>
    some
      { writes := [s.put8 .a (s.a.rotateLeft 1)]
        flags := flagsAre { s.flags with h := false, n := false, c := s.a.msb } }
  | .rrca =>
    some
      { writes := [s.put8 .a (s.a.rotateRight 1)]
        flags := flagsAre { s.flags with h := false, n := false, c := (s.a.getLsbD 0) } }
  | .rla =>
    some
      { writes := [s.put8 .a (shiftedInLow s.a s.carry)]
        flags := flagsAre { s.flags with h := false, n := false, c := s.a.msb } }
  | .rra =>
    some
      { writes := [s.put8 .a (shiftedInHigh s.a s.carry)]
        flags := flagsAre { s.flags with h := false, n := false, c := (s.a.getLsbD 0) } }
  | _ => none

/-- R554, R555: RLD and RRD. -/
def State.digitEffect (s : State) (i : Instr) : Option Effect :=
  match i with
  | .rld =>
    some
      { writes := [s.put8 .a ((s.a &&& (0xF0 : Byte)) ||| ((s.readByte (s.pair .hl)) >>> 4))]
        flags := flagsAre (s.keepC (exactLogic false ((s.a &&& (0xF0 : Byte)) ||| ((s.readByte (s.pair .hl)) >>> 4))))
        store := some (s.pair .hl, 1, zext32 (((s.readByte (s.pair .hl)) <<< 4) ||| (s.a &&& (0x0F : Byte)))) }
  | .rrd =>
    some
      { writes := [s.put8 .a ((s.a &&& (0xF0 : Byte)) ||| ((s.readByte (s.pair .hl)) &&& (0x0F : Byte)))]
        flags := flagsAre (s.keepC (exactLogic false ((s.a &&& (0xF0 : Byte)) ||| ((s.readByte (s.pair .hl)) &&&
            (0x0F : Byte)))))
        store := some (s.pair .hl, 1, zext32 ((s.a <<< 4) ||| ((s.readByte (s.pair .hl)) >>> 4))) }
  | _ => none

/-- R560 to R567: word rotates and shifts. -/
def State.rotateWordEffect (s : State) (i : Instr) : Option Effect :=
  match i with
  | .rlcwWop x => some (s.turns x ((s.wordOp x).rotateLeft 1) (s.wordOp x).msb)
  | .rlcwIdxD y d =>
    some
      { flags := flagsAre (exactShift ((s.readWord (s.eaIdx y d)).rotateLeft 1) (s.readWord (s.eaIdx y d)).msb)
        store := some (s.eaIdx y d, 2, zext32 ((s.readWord (s.eaIdx y d)).rotateLeft 1)) }
  | .rrcwWop x => some (s.turns x ((s.wordOp x).rotateRight 1) ((s.wordOp x).getLsbD 0))
  | .rrcwIdxD y d =>
    some
      { flags := flagsAre (exactShift ((s.readWord (s.eaIdx y d)).rotateRight 1) ((s.readWord (s.eaIdx y
            d)).getLsbD 0))
        store := some (s.eaIdx y d, 2, zext32 ((s.readWord (s.eaIdx y d)).rotateRight 1)) }
  | .rlwWop x => some (s.turns x (shiftedInLow (s.wordOp x) s.carry) (s.wordOp x).msb)
  | .rlwIdxD y d =>
    some
      { flags := flagsAre (exactShift (shiftedInLow (s.readWord (s.eaIdx y d)) s.carry) (s.readWord (s.eaIdx y
            d)).msb)
        store := some (s.eaIdx y d, 2, zext32 (shiftedInLow (s.readWord (s.eaIdx y d)) s.carry)) }
  | .rrwWop x => some (s.turns x (shiftedInHigh (s.wordOp x) s.carry) ((s.wordOp x).getLsbD 0))
  | .rrwIdxD y d =>
    some
      { flags := flagsAre (exactShift (shiftedInHigh (s.readWord (s.eaIdx y d)) s.carry) ((s.readWord (s.eaIdx y
            d)).getLsbD 0))
        store := some (s.eaIdx y d, 2, zext32 (shiftedInHigh (s.readWord (s.eaIdx y d)) s.carry)) }
  | .slawWop x => some (s.turns x (shiftedInLow (s.wordOp x) false) (s.wordOp x).msb)
  | .slawIdxD y d =>
    some
      { flags := flagsAre (exactShift (shiftedInLow (s.readWord (s.eaIdx y d)) false) (s.readWord (s.eaIdx y d)).msb)
        store := some (s.eaIdx y d, 2, zext32 (shiftedInLow (s.readWord (s.eaIdx y d)) false)) }
  | .srawWop x => some (s.turns x (shiftedInHigh (s.wordOp x) (s.wordOp x).msb) ((s.wordOp x).getLsbD 0))
  | .srawIdxD y d =>
    some
      { flags := flagsAre (exactShift (shiftedInHigh (s.readWord (s.eaIdx y d)) (s.readWord (s.eaIdx y d)).msb)
            ((s.readWord (s.eaIdx y d)).getLsbD 0))
        store := some (s.eaIdx y d, 2, zext32 (shiftedInHigh (s.readWord (s.eaIdx y d)) (s.readWord (s.eaIdx y
            d)).msb)) }
  | .srlwWop x => some (s.turns x (shiftedInHigh (s.wordOp x) false) ((s.wordOp x).getLsbD 0))
  | .srlwIdxD y d =>
    some
      { flags := flagsAre (exactShift (shiftedInHigh (s.readWord (s.eaIdx y d)) false) ((s.readWord (s.eaIdx y
            d)).getLsbD 0))
        store := some (s.eaIdx y d, 2, zext32 (shiftedInHigh (s.readWord (s.eaIdx y d)) false)) }
  | _ => none

/-- R580 to R583: BIT, SET and RES; S and P/V after BIT are open. -/
def State.bitEffect (s : State) (i : Instr) : Option Effect :=
  match i with
  | .bitBR b r => some { flags := s.bitTestFlags ((s.reg8 r).getLsbD b.toNat) }
  | .setBR b r => some { writes := [s.put8 r ((s.reg8 r) ||| BitVec.twoPow 8 b.toNat)] }
  | .resBR b r => some { writes := [s.put8 r ((s.reg8 r) &&& ~~~BitVec.twoPow 8 b.toNat)] }
  | .bitBIndHl b => some { flags := s.bitTestFlags ((s.readByte (s.pair .hl)).getLsbD b.toNat) }
  | .setBIndHl b =>
    some
      { store := some (s.pair .hl, 1, zext32 ((s.readByte (s.pair .hl)) ||| BitVec.twoPow 8 b.toNat)) }
  | .resBIndHl b =>
    some
      { store := some (s.pair .hl, 1, zext32 ((s.readByte (s.pair .hl)) &&& ~~~BitVec.twoPow 8 b.toNat)) }
  | .bitBIdxD b y d => some { flags := s.bitTestFlags ((s.readByte (s.eaIdx y d)).getLsbD b.toNat) }
  | .setBIdxD b y d =>
    some
      { store := some (s.eaIdx y d, 1, zext32 ((s.readByte (s.eaIdx y d)) ||| BitVec.twoPow 8 b.toNat)) }
  | .resBIdxD b y d =>
    some
      { store := some (s.eaIdx y d, 1, zext32 ((s.readByte (s.eaIdx y d)) &&& ~~~BitVec.twoPow 8 b.toNat)) }
  | _ => none

/-- R601 to R607, R613 to R618: the jumps. -/
def State.jumpEffect (s : State) (i : Instr) : Option Effect :=
  match i with
  | .jpNn nn => some { goto := some (ringed s.xm (immValue nn)) }
  | .jpCcNn cc nn => some (if s.cond cc = true then { goto := some (ringed s.xm (immValue nn)) } else {})
  | .jpIndHl => some { goto := some (ringed s.xm (s.pair .hl)) }
  | .jpIndXy y => some { goto := some (ringed s.xm (s.idx y)) }
  | .jrE8 e => some { goto := some (ringed s.xm (s.after i + BitVec.ofInt 32 e.toInt)) }
  | .jrCcE8 cc e =>
    some (if s.cond cc = true then { goto := some (ringed s.xm (s.after i + BitVec.ofInt 32 e.toInt)) }
      else {})
  | .djnzE8 e =>
    some
      { writes := [s.put8 .b (s.reg8 .b - 1)]
        goto := if s.reg8 .b = 1 then none else some (ringed s.xm (s.after i + BitVec.ofInt 32 e.toInt)) }
  | .jrE16 e => some { goto := some (ringed s.xm (s.after i + BitVec.ofInt 32 e.toInt)) }
  | .jrCcE16 cc e =>
    some (if s.cond cc = true then { goto := some (ringed s.xm (s.after i + BitVec.ofInt 32 e.toInt)) }
      else {})
  | .djnzE16 e =>
    some
      { writes := [s.put8 .b (s.reg8 .b - 1)]
        goto := if s.reg8 .b = 1 then none else some (ringed s.xm (s.after i + BitVec.ofInt 32 e.toInt)) }
  | .jrE24 e => some { goto := some (ringed s.xm (s.after i + BitVec.ofInt 32 e.toInt)) }
  | .jrCcE24 cc e =>
    some (if s.cond cc = true then { goto := some (ringed s.xm (s.after i + BitVec.ofInt 32 e.toInt)) }
      else {})
  | .djnzE24 e =>
    some
      { writes := [s.put8 .b (s.reg8 .b - 1)]
        goto := if s.reg8 .b = 1 then none else some (ringed s.xm (s.after i + BitVec.ofInt 32 e.toInt)) }
  | _ => none

/-- R622, R623, R628 to R634: the calls and restarts. -/
def State.callEffect (s : State) (i : Instr) : Option Effect :=
  match i with
  | .callNn nn => some (s.calls (s.after i) (immValue nn))
  | .callCcNn cc nn => some (if s.cond cc = true then s.calls (s.after i) (immValue nn) else {})
  | .rstP p => some (s.calls (s.after i) (zext32 p * 8))
  | .calrE8 e => some (s.calls (s.after i) (s.after i + BitVec.ofInt 32 e.toInt))
  | .calrCcE8 cc e =>
    some (if s.cond cc = true then s.calls (s.after i) (s.after i + BitVec.ofInt 32 e.toInt)
      else {})
  | .calrE16 e => some (s.calls (s.after i) (s.after i + BitVec.ofInt 32 e.toInt))
  | .calrCcE16 cc e =>
    some (if s.cond cc = true then s.calls (s.after i) (s.after i + BitVec.ofInt 32 e.toInt)
      else {})
  | .calrE24 e => some (s.calls (s.after i) (s.after i + BitVec.ofInt 32 e.toInt))
  | .calrCcE24 cc e =>
    some (if s.cond cc = true then s.calls (s.after i) (s.after i + BitVec.ofInt 32 e.toInt)
      else {})
  | _ => none

/-- R624 to R627: the returns. -/
def State.returnEffect (s : State) (i : Instr) : Option Effect :=
  match i with
  | .ret => some (s.returns)
  | .reti => some (s.returns)
  | .retCc cc => some (if s.cond cc = true then s.returns else {})
  | .retn => some { s.returns with writes := [(.sp, s.spUp s.modeBytes), (.sr, withSr s.sr 0x20 s.ief2)] }
  | _ => none

/-- R651, R652, R665, R671, R672: the inputs from the external space. -/
def State.inputEffect (s : State) (i : Instr) : Option Effect :=
  match i with
  | .inAPortN n =>
    some
      { writes := [s.put8 .a (s.portByte (zext32 (s.a ++ n)))]
        events := [.portRead false (zext32 (s.a ++ n)) (s.portAnswer false (zext32 (s.a ++ n)))]
        reads := 1 }
  | .inRPortC r =>
    some
      { writes := [s.put8 r (s.portByte (s.pair .bc))]
        flags := flagsAre (exactInput s.flags (s.portByte (s.pair .bc)))
        events := [.portRead false (s.pair .bc) (s.portAnswer false (s.pair .bc))]
        reads := 1 }
  | .inaADirNn nn =>
    some
      { writes := [s.put8 .a (s.portByte (immValue nn))]
        events := [.portRead false (immValue nn) (s.portAnswer false (immValue nn))]
        reads := 1 }
  | .inwBcPortC =>
    some
      { writes := [s.putLo .bc (s.portWord (s.pair .bc))]
        flags := flagsAre (exactInput s.flags (s.portWord (s.pair .bc)))
        events := [.portRead true (s.pair .bc) (s.portAnswer true (s.pair .bc))]
        reads := 1 }
  | .inwDePortC =>
    some
      { writes := [s.putLo .de (s.portWord (s.pair .bc))]
        flags := flagsAre (exactInput s.flags (s.portWord (s.pair .bc)))
        events := [.portRead true (s.pair .bc) (s.portAnswer true (s.pair .bc))]
        reads := 1 }
  | .inwHlPortC =>
    some
      { writes := [s.putLo .hl (s.portWord (s.pair .bc))]
        flags := flagsAre (exactInput s.flags (s.portWord (s.pair .bc)))
        events := [.portRead true (s.pair .bc) (s.portAnswer true (s.pair .bc))]
        reads := 1 }
  | .inawHlDirNn nn =>
    some
      { writes := [s.putLo .hl (s.portWord (immValue nn))]
        events := [.portRead true (immValue nn) (s.portAnswer true (immValue nn))]
        reads := 1 }
  | _ => none

/-- R653, R654, R666, R667, R677 to R679: the outputs to the external space. -/
def State.outputEffect (s : State) (i : Instr) : Option Effect :=
  match i with
  | .outPortNA n => some { events := [.portWrite false (zext32 (s.a ++ n)) (s.a.setWidth 16)] }
  | .outPortCR r => some { events := [.portWrite false (s.pair .bc) ((s.reg8 r).setWidth 16)] }
  | .outPortCN n => some { events := [.portWrite false (s.pair .bc) (n.setWidth 16)] }
  | .outaDirNnA nn => some { events := [.portWrite false (immValue nn) (s.a.setWidth 16)] }
  | .outwPortCBc => some { events := [.portWrite true (s.pair .bc) (lo16 (s.pair .bc))] }
  | .outwPortCDe => some { events := [.portWrite true (s.pair .bc) (lo16 (s.pair .de))] }
  | .outwPortCHl => some { events := [.portWrite true (s.pair .bc) (lo16 (s.pair .hl))] }
  | .outwPortCNn nn => some { events := [.portWrite true (s.pair .bc) (lo16 (immValue nn))] }
  | .outawDirNnHl nn => some { events := [.portWrite true (immValue nn) (lo16 (s.pair .hl))] }
  | _ => none

/-- R655 to R662: the block input and output of bytes; S, H, P/V and C after them are open. -/
def State.blockIoEffect (s : State) (i : Instr) : Option Effect :=
  match i with
  | .ini =>
    some
      { writes := [s.putStep .hl 1, s.put8 .b (s.reg8 .b - 1)]
        flags := blockFlags (decide (s.reg8 .b = 1))
        store := some (s.pair .hl, 1, zext32 (s.portByte (s.pair .bc)))
        events := [.portRead false (s.pair .bc) (s.portAnswer false (s.pair .bc))]
        reads := 1 }
  | .ind =>
    some
      { writes := [s.putStep .hl (-1), s.put8 .b (s.reg8 .b - 1)]
        flags := blockFlags (decide (s.reg8 .b = 1))
        store := some (s.pair .hl, 1, zext32 (s.portByte (s.pair .bc)))
        events := [.portRead false (s.pair .bc) (s.portAnswer false (s.pair .bc))]
        reads := 1 }
  | .inir =>
    some
      { writes := [s.putStep .hl 1, s.put8 .b (s.reg8 .b - 1)]
        flags := blockFlags (decide (s.reg8 .b = 1))
        store := some (s.pair .hl, 1, zext32 (s.portByte (s.pair .bc)))
        goto := s.goesOn i (decide (s.reg8 .b ≠ 1))
        events := [.portRead false (s.pair .bc) (s.portAnswer false (s.pair .bc))]
        reads := 1 }
  | .indr =>
    some
      { writes := [s.putStep .hl (-1), s.put8 .b (s.reg8 .b - 1)]
        flags := blockFlags (decide (s.reg8 .b = 1))
        store := some (s.pair .hl, 1, zext32 (s.portByte (s.pair .bc)))
        goto := s.goesOn i (decide (s.reg8 .b ≠ 1))
        events := [.portRead false (s.pair .bc) (s.portAnswer false (s.pair .bc))]
        reads := 1 }
  | .outi =>
    some
      { writes := [s.putStep .hl 1, s.put8 .b (s.reg8 .b - 1)]
        flags := blockFlags (decide (s.reg8 .b = 1))
        events := [.portWrite false (withHi8 (s.pair .bc) (s.reg8 .b - 1)) ((s.readByte (s.pair .hl)).setWidth 16)] }
  | .outd =>
    some
      { writes := [s.putStep .hl (-1), s.put8 .b (s.reg8 .b - 1)]
        flags := blockFlags (decide (s.reg8 .b = 1))
        events := [.portWrite false (withHi8 (s.pair .bc) (s.reg8 .b - 1)) ((s.readByte (s.pair .hl)).setWidth 16)] }
  | .otir =>
    some
      { writes := [s.putStep .hl 1, s.put8 .b (s.reg8 .b - 1)]
        flags := blockFlags (decide (s.reg8 .b = 1))
        goto := s.goesOn i (decide (s.reg8 .b ≠ 1))
        events := [.portWrite false (withHi8 (s.pair .bc) (s.reg8 .b - 1)) ((s.readByte (s.pair .hl)).setWidth 16)] }
  | .otdr =>
    some
      { writes := [s.putStep .hl (-1), s.put8 .b (s.reg8 .b - 1)]
        flags := blockFlags (decide (s.reg8 .b = 1))
        goto := s.goesOn i (decide (s.reg8 .b ≠ 1))
        events := [.portWrite false (withHi8 (s.pair .bc) (s.reg8 .b - 1)) ((s.readByte (s.pair .hl)).setWidth 16)] }
  | _ => none

/-- R673 to R676, R680 to R683: the block input and output of words; S, H, P/V and C after them are open. -/
def State.blockWordIoEffect (s : State) (i : Instr) : Option Effect :=
  match i with
  | .iniw =>
    some
      { writes := [s.putStep .hl 2, s.putLo .bc (s.count - 1)]
        flags := blockFlags (decide (s.count = 1))
        store := some (s.pair .hl, 2, zext32 (s.portWord (s.pair .de)))
        events := [.portRead true (s.pair .de) (s.portAnswer true (s.pair .de))]
        reads := 1 }
  | .indw =>
    some
      { writes := [s.putStep .hl (-2), s.putLo .bc (s.count - 1)]
        flags := blockFlags (decide (s.count = 1))
        store := some (s.pair .hl, 2, zext32 (s.portWord (s.pair .de)))
        events := [.portRead true (s.pair .de) (s.portAnswer true (s.pair .de))]
        reads := 1 }
  | .inirw =>
    some
      { writes := [s.putStep .hl 2, s.putLo .bc (s.count - 1)]
        flags := blockFlags (decide (s.count = 1))
        store := some (s.pair .hl, 2, zext32 (s.portWord (s.pair .de)))
        goto := s.goesOn i (decide (s.count ≠ 1))
        events := [.portRead true (s.pair .de) (s.portAnswer true (s.pair .de))]
        reads := 1 }
  | .indrw =>
    some
      { writes := [s.putStep .hl (-2), s.putLo .bc (s.count - 1)]
        flags := blockFlags (decide (s.count = 1))
        store := some (s.pair .hl, 2, zext32 (s.portWord (s.pair .de)))
        goto := s.goesOn i (decide (s.count ≠ 1))
        events := [.portRead true (s.pair .de) (s.portAnswer true (s.pair .de))]
        reads := 1 }
  | .outiw =>
    some
      { writes := [s.putStep .hl 2, s.putLo .bc (s.count - 1)]
        flags := blockFlags (decide (s.count = 1))
        events := [.portWrite true (s.pair .de) (s.readWord (s.pair .hl))] }
  | .outdw =>
    some
      { writes := [s.putStep .hl (-2), s.putLo .bc (s.count - 1)]
        flags := blockFlags (decide (s.count = 1))
        events := [.portWrite true (s.pair .de) (s.readWord (s.pair .hl))] }
  | .otirw =>
    some
      { writes := [s.putStep .hl 2, s.putLo .bc (s.count - 1)]
        flags := blockFlags (decide (s.count = 1))
        goto := s.goesOn i (decide (s.count ≠ 1))
        events := [.portWrite true (s.pair .de) (s.readWord (s.pair .hl))] }
  | .otdrw =>
    some
      { writes := [s.putStep .hl (-2), s.putLo .bc (s.count - 1)]
        flags := blockFlags (decide (s.count = 1))
        goto := s.goesOn i (decide (s.count ≠ 1))
        events := [.portWrite true (s.pair .de) (s.readWord (s.pair .hl))] }
  | _ => none

/-- R691 to R694: the single accesses to the internal space, a write to an address without a register being dropped (log 28). -/
def State.internalIoEffect (s : State) (i : Instr) : Option Effect :=
  match i with
  | .in0RPortN r n => some { writes := [s.put8 r (s.ioRead n)], flags := flagsAre (exactInput s.flags (s.ioRead n)) }
  | .in0PortN n => some { flags := flagsAre (exactInput s.flags (s.ioRead n)) }
  | .out0PortNR n r => some { writes := s.ioWrites n (s.reg8 r) }
  | .tstioN n => some { flags := flagsAre (exactLogic true (s.ioRead (s.reg8 .c) &&& n)) }
  | _ => none

/-- R695 to R698: the block output to the internal space, a write to an address without a register being dropped (log 28); all flags but Z are open. -/
def State.internalBlockEffect (s : State) (i : Instr) : Option Effect :=
  match i with
  | .otim =>
    some
      { writes := s.ioWrites (s.reg8 .c) (s.readByte (s.pair .hl)) ++ [s.putStep .hl 1, (s.locPair .bc,
            withHi8 (withLo8 (s.pair .bc) (s.reg8 .c + 1)) (s.reg8 .b - 1))]
        flags := blockFlags (decide (s.reg8 .b = 1)) }
  | .otdm =>
    some
      { writes := s.ioWrites (s.reg8 .c) (s.readByte (s.pair .hl)) ++ [s.putStep .hl (-1), (s.locPair .bc,
            withHi8 (withLo8 (s.pair .bc) (s.reg8 .c + (-1))) (s.reg8 .b - 1))]
        flags := blockFlags (decide (s.reg8 .b = 1)) }
  | .otimr =>
    some
      { writes := s.ioWrites (s.reg8 .c) (s.readByte (s.pair .hl)) ++ [s.putStep .hl 1, (s.locPair .bc,
            withHi8 (withLo8 (s.pair .bc) (s.reg8 .c + 1)) (s.reg8 .b - 1))]
        flags := blockFlags (decide (s.reg8 .b = 1))
        goto := s.goesOn i (decide (s.reg8 .b ≠ 1)) }
  | .otdmr =>
    some
      { writes := s.ioWrites (s.reg8 .c) (s.readByte (s.pair .hl)) ++ [s.putStep .hl (-1), (s.locPair .bc,
            withHi8 (withLo8 (s.pair .bc) (s.reg8 .c + (-1))) (s.reg8 .b - 1))]
        flags := blockFlags (decide (s.reg8 .b = 1))
        goto := s.goesOn i (decide (s.reg8 .b ≠ 1)) }
  | _ => none

end Sys2Proof.Machine
end

