-- ==== Sys2Proof/Machine/Platform.lean ====
section
/-! DEFINITION. What the pins show of a state: /HALT, /STNBY, the bus grant, the chip selects and wait states of the memory
controller, the warm-up (R768 to R778). No rule reads these back (R19 d). -/

namespace Sys2Proof.Machine

/-- R768: /HALT is asserted. -/
def State.haltPin (s : State) : Bool := s.halted

/-- R769: /STNBY is asserted. -/
def State.standbyPin (s : State) : Bool := s.standby

/-- R809, R45: a bus request is granted. -/
def State.grantsBus (s : State) : Bool := !s.lck

/-- R60, R770: the clock periods of warm-up that WM2 to WM0 select; none where the spec states no delay (two bits set). -/
def warmUp (smcr : Byte) : Option Nat :=
  match (smcr.extractLsb' 0 3).toNat with
  | 0 => some 0
  | 1 => some (2 ^ 16)
  | 2 => some (2 ^ 17)
  | 4 => some (2 ^ 19)
  | _ => none

/-- R774: the select outputs: lower, the four middle areas (/MCS of scheme 2 is `mcs0`), upper. -/
structure Selects where
  lmcs : Bool
  mcs0 : Bool
  mcs1 : Bool
  mcs2 : Bool
  mcs3 : Bool
  umcs : Bool
  deriving DecidableEq, Repr

/-- R57: the clocks a wait register adds to T1, T2 and T3. -/
structure Waits where
  t1 : Nat
  t2 : Nat
  t3 : Nat
  deriving DecidableEq, Repr

/-- R57: the fields of a wait register. -/
def waitsOf (v : Byte) : Waits := ⟨(v.extractLsb' 5 3).toNat, (v.extractLsb' 3 2).toNat, (v.extractLsb' 0 3).toNat⟩

/-- R773: an address of the low 16 MiB, which alone the controller decodes. -/
def inLow16M (a : Long) : Bool := a.extractLsb' 24 8 == 0

/-- R58: the global enable, MSMER bit 0, for an address the controller decodes. -/
def State.controllerOn (s : State) (a : Long) : Bool := s.io.msmer.getLsbD 0 && inLow16M a

/-- R775: the 12 mask bits of a pair of select registers. -/
def selectMask (r1 r0 : Byte) : BitVec 12 := r1 ++ r0.extractLsb' 4 4

/-- R775: /LMCS. -/
def State.lowerSelected (s : State) (a : Long) : Bool :=
  s.controllerOn a && s.io.msmer.getLsbD 7 && (a.extractLsb' 12 12 &&& selectMask s.io.lmcs1 s.io.lmcs0) == 0

/-- R776, C17: /UMCS; the compare is `UMCS_COMPARE` (log 29). -/
def State.upperSelected (s : State) (a : Long) : Bool :=
  let m := selectMask s.io.umcs1 s.io.umcs0
  s.controllerOn a && s.io.msmer.getLsbD 6 &&
    match s.params.umcsCompare with
    | .anySelected => (a.extractLsb' 12 12 &&& m) != 0
    | .allSelected => (a.extractLsb' 12 12 &&& m) == m

/-- R777: the ten bits 23..14 of a pair of middle-memory registers. -/
def middleBits (r1 r0 : Byte) : BitVec 10 := r1 ++ r0.extractLsb' 6 2

/-- R777, scheme 1: every address bit that MA selects equals its bit of BA. -/
def State.middleMatch (s : State) (a : Long) : Bool :=
  let ma := middleBits s.io.mmcs1 s.io.mmcs0
  let ba := middleBits s.io.mmcs3 s.io.mmcs2
  ((a.extractLsb' 14 10 ^^^ ba) &&& ma) == 0

/-- R774, R777: the address is in the middle memory: scheme 1 under ENM1, scheme 2 under ENM2 (log 29). -/
def State.middleSelected (s : State) (a : Long) : Bool :=
  s.controllerOn a &&
    ((s.io.msmer.getLsbD 5 && s.middleMatch a) ||
      (s.io.msmer.getLsbD 4 && !s.lowerSelected a && !s.upperSelected a))

/-- R777, scheme 1: the address is in middle area `k`. -/
def State.middleArea (s : State) (a : Long) (k : BitVec 2) : Bool :=
  s.controllerOn a && s.io.msmer.getLsbD 5 && s.middleMatch a && a.extractLsb' 14 2 == k

/-- R774 to R777: the selects an access to an address asserts; under ENM2 /MCS0 covers all middle memory. -/
def State.selects (s : State) (a : Long) : Selects where
  lmcs := s.lowerSelected a
  mcs0 := if s.io.msmer.getLsbD 4 then s.middleSelected a else s.middleArea a 0
  mcs1 := s.middleArea a 1
  mcs2 := s.middleArea a 2
  mcs3 := s.middleArea a 3
  umcs := s.upperSelected a

/-- R53, R55, R56, R777: the selects of a refresh cycle, each gated by its ERF bit. -/
def State.refreshSelects (s : State) (a : Long) : Selects where
  lmcs := (s.selects a).lmcs && s.io.lmcs0.getLsbD 0
  mcs0 := (s.selects a).mcs0 && s.io.mmcs0.getLsbD 0
  mcs1 := (s.selects a).mcs1 && s.io.mmcs0.getLsbD 1
  mcs2 := (s.selects a).mcs2 && s.io.mmcs0.getLsbD 2
  mcs3 := (s.selects a).mcs3 && s.io.mmcs0.getLsbD 3
  umcs := (s.selects a).umcs && s.io.umcs0.getLsbD 0

/-- R778: the wait states of the areas an access selects. That MMWR0 serves the single /MCS of scheme 2, and that under
ENM1 = ENM2 = 1 an access that asserts two selects is given the waits of both, is the model's choice (log 41). -/
def State.waits (s : State) (a : Long) : List Waits :=
  let t := s.selects a
  let one (on : Bool) (v : Byte) : List Waits := if on then [waitsOf v] else []
  one t.lmcs s.io.lmwr ++ one t.mcs0 s.io.mmwr0 ++ one t.mcs1 s.io.mmwr1 ++ one t.mcs2 s.io.mmwr2 ++
    one t.mcs3 s.io.mmwr3 ++ one t.umcs s.io.umwr

end Sys2Proof.Machine
end

