-- ==== Sys2Proof/Certificates/Slice0/Obligations.lean ====
section
/-! DEFINITION. The statements for the provers, each a proposition about the model. -/

open Sys2Proof Sys2Proof.Machine

/-- R64, R100: the state after reset meets the invariant `StepKeepsInvariant` is about. -/
def Obligations.ResetMeetsInvariant : Prop :=
  Invariant State.reset

/-- Every step keeps the invariant, from every state that meets it: memory in canonical form; the bits of SR and of the
internal I/O registers printed 0 or `-` read 0 (R40, R109, R444); in native mode PC and SP stay in the low 64 KiB (R36,
R37). -/
def Obligations.StepKeepsInvariant : Prop :=
  ∀ s t : State, Invariant s → step s = .next t → Invariant t

/-- R166, R167, R469: decoding the bytes of a well-formed instruction whose fields fit the pending directive gives it
back, whatever follows them. -/
def Obligations.DecodeUndoesEncode : Prop :=
  ∀ (i : Instr) (e : Ext) (rest : List Byte), i.wf = true → i.fits e = true →
    decode e (encode i ++ rest) = .ok (i, rest)

/-- R160, R166, R167: whatever the decoder reads is a well-formed instruction that fits the pending directive, and
encoding it gives back the bytes read: no encoding but the one of the table is accepted. -/
def Obligations.EncodeUndoesDecode : Prop :=
  ∀ (e : Ext) (bs rest : List Byte) (i : Instr), decode e bs = .ok (i, rest) →
    i.wf = true ∧ i.fits e = true ∧ encode i ++ rest = bs

/-- Words written out from the opcode maps decode to the instructions they stand for: one or two of each page. -/
def Obligations.WordsDecode : Prop :=
  ReadAs [0x78] (.ldRR .a .b) ∧ ReadAs [0xEB] .exDeHl ∧ ReadAs [0xCB, 0x7E] (.bitBIndHl 7) ∧
    ReadAs [0xDD, 0xF7] .setcLw ∧ ReadAs [0xFD, 0xF7] .setcXm ∧ ReadAs [0xED, 0xB0] .ldir ∧
    ReadAs [0xED, 0xE0] .ldiw ∧ decode .zero [0xDD, 0x21, 0x34, 0x12] = .ok (.ldXyNn .ix (.i16 0x1234), []) ∧
    decode .zero [0xFD, 0xCB, 0xFE, 0x46] = .ok (.bitBIdxD 0 .iy (.d8 0xFE), []) ∧
    decode .iw [0xC3, 0x56, 0x34, 0x12, 0x00] = .ok (.jpNn (.i32 0x00123456), [])

/-- R19 (e), R105, R120: where no RESET and no interrupt is taken, the processor is not stopped, and none of the bytes was
written inside the fetch window, a step runs the instruction that the bytes at PC decode to, and then retires it: a
directive is used up, a shadow of EI ends, the step counts. -/
def Obligations.StepRunsDecoded : Prop :=
  ∀ (s : State) (i : Instr) (rest : List Byte), s.runsInstr i rest →
    step s = onNext (exec i s.sampled) (s.sampled.retire i (maxLength - rest.length))

/-- R64, R790: RESET overrides everything and starts execution in native mode, word format, maskable interrupts disabled,
bus lock off, every directive, HALT, standby and shadow ended, PC at `RESET_PC`. That memory, the outputs and the
parameters stay, and what the selectors of SR and the latch of /NMI become, is the model's choice (log 10, 20). -/
def Obligations.ResetEntersNativeMode : Prop :=
  ∀ s : State, s.now.reset = true → Answers (step s) fun t =>
    t.xm = false ∧ t.lw = false ∧ t.ief1 = false ∧ t.lck = false ∧ t.sr = 0 ∧ t.ief2 = false ∧ t.ddir = none ∧
      t.halted = false ∧ t.standby = false ∧ t.eiShadow = false ∧ t.nmiPending = false ∧
      t.pc = zext32 s.params.resetPc ∧ t.io.msmer = 0xC0 ∧ t.io.ier = 0x01 ∧ t.io.lmcs0.getLsbD 0 = false ∧
      t.io.smcr.getLsbD 7 = false ∧ t.mem = s.mem ∧ t.params = s.params ∧ t.busLog = s.busLog ∧
      t.inputs = s.inputs.tail

/-- R41, R444: no instruction, interrupt or trap leaves extended mode: only RESET does. -/
def Obligations.ExtendedModeStays : Prop :=
  ∀ s t : State, s.now.reset = false → s.xm = true → step s = .next t → t.xm = true

/-- R33, R34: an instruction reaches only the registers of the banks that SR selects before it: the main bank for A, F,
BC, DE, HL and their primed twins, the IX bank and the IY bank for theirs. -/
def Obligations.OtherBanksStay : Prop :=
  ∀ (i : Instr) (s t : State), exec i s = .next t → ∀ l : Loc, s.inBank l = false → t.look l = s.look l

/-- R768, D25: a halted processor changes nothing while no interrupt and no RESET is taken: no register, no byte of
memory, no output. The latch of /NMI is R730's. -/
def Obligations.HaltedChangesNothing : Prop :=
  ∀ s : State, s.quiet → s.halted = true → s.standby = false → Answers (step s) fun t =>
    Unchanged [.nmiPending] s t ∧ t.nmiPending = (s.nmiPending || s.now.nmi) ∧ t.mem = s.mem ∧ t.ddir = s.ddir ∧
      t.busLog = s.busLog ∧ t.portIn = s.portIn ∧ t.inputs = s.inputs.tail ∧ t.params = s.params

/-- R769 to R771: a processor in standby keeps every register and byte of memory; while no interrupt and no RESET is taken
it leaves standby exactly when a bus request comes with SMCR.BRXT = 1 and SR.LCK = 0 (log 23). -/
def Obligations.StandbyWaits : Prop :=
  ∀ s : State, s.quiet → s.standby = true → Answers (step s) fun t =>
    (t.standby = false ↔ s.now.busReq = true ∧ s.io.smcr.getLsbD 6 = true ∧ s.sr.getLsbD 1 = false) ∧
      Unchanged [.nmiPending, .standby] s t ∧ t.mem = s.mem ∧ t.ddir = s.ddir ∧ t.busLog = s.busLog ∧
      t.portIn = s.portIn ∧ t.inputs = s.inputs.tail ∧ t.params = s.params

/-- R720, R731: what is accepted at a boundary: nothing behind a directive; NMI before all, whatever IEF1 and IER say;
input /INTn when its line is asserted, IEF1 = 1, IER[n] = 1, no shadow of EI lies on the boundary, and no input of a lower
number qualifies. -/
def Obligations.AcceptedEvent : Prop :=
  ∀ (s : State) (e : Inputs), (s.accepted e = some .nmi ↔ s.ddir = none ∧ s.nmiPending = true) ∧
    ∀ n : Fin 4, s.accepted e = some (.int n) ↔
      e.line n = true ∧ s.sr.getLsbD 5 = true ∧ s.io.ier.getLsbD n.val = true ∧ s.eiShadow = false ∧ s.ddir = none ∧
        s.nmiPending = false ∧ ∀ m : Fin 4, m < n → ¬ (e.line m = true ∧ s.io.ier.getLsbD m.val = true)

/-- R735: the entry of NMI: HALT and standby end, IEF2 keeps IEF1, IEF1 is cleared, the address of the instruction that
would have run next goes to the stack in the width of the mode, PC is 66h; nothing else is saved and nothing else changes.
That the entry clears the latch of /NMI (log 15) and keeps the shadow of EI (log 34) is the model's reading. -/
def Obligations.NmiEntry : Prop :=
  ∀ s : State, s.now.reset = false → s.ddir = none → (s.nmiPending = true ∨ s.now.nmi = true) →
    Answers (step s) (EntersAt s s.ief1 fun _ => 0x66)

/-- R740, D21: /INT0 in mode 0 runs what the device supplies: RST p or CALL nn, with the entry of R736; anything else is
refused (log 22). -/
def Obligations.ModeZeroEntry : Prop :=
  ∀ s : State, s.now.reset = false → s.sampled.accepted s.now = some (.int 0) → s.im = 0 →
    (∀ p : BitVec 3, s.now.ackInstr = [0xC7 ||| (p.setWidth 8 <<< 3)] →
      Answers (step s) (EntersAt s false fun _ => zext32 p * 8)) ∧
    (∀ lo hi : Byte, s.now.ackInstr = [0xCD, lo, hi] →
      Answers (step s) (EntersAt s false fun _ => zext32 (hi ++ lo))) ∧
    ((∀ p : BitVec 3, s.now.ackInstr ≠ [0xC7 ||| (p.setWidth 8 <<< 3)]) →
      (∀ lo hi : Byte, s.now.ackInstr ≠ [0xCD, lo, hi]) → step s = .refused .intackInstruction)

/-- R741: /INT0 in mode 1: the entry of R736, then PC = 38h. -/
def Obligations.ModeOneEntry : Prop :=
  ∀ s : State, s.now.reset = false → s.sampled.accepted s.now = some (.int 0) → s.im = 1 →
    Answers (step s) (EntersAt s false fun _ => 0x38)

/-- R742: /INT0 in mode 2: the entry of R736, then PC is the word or long word at Iz, I and the 8-bit vector; it is read
from memory as the push left it. That Iz is used is the spec's derivation. -/
def Obligations.ModeTwoEntry : Prop :=
  ∀ s : State, s.now.reset = false → s.sampled.accepted s.now = some (.int 0) → s.im = 2 →
    Answers (step s) (EntersAt s false fun u =>
      ringed s.xm (u.readW s.xm (ext16 s.ireg ++ hi8 s.ireg ++ wordLo s.now.ackVector)))

/-- R743: /INT0 in mode 3: the entry of R736, then PC is the word or long word at Iz and the 16-bit vector; it is read
from memory as the push left it. -/
def Obligations.ModeThreeEntry : Prop :=
  ∀ s : State, s.now.reset = false → s.sampled.accepted s.now = some (.int 0) → s.im = 3 →
    Answers (step s) (EntersAt s false fun u => ringed s.xm (u.readW s.xm (ext16 s.ireg ++ s.now.ackVector)))

/-- R745: /INT1 to /INT3: the entry of R736, then PC is the word or long word at Iz, AVBR[7:1], a 0 bit and 00h, 04h or
08h, read from memory as the push left it, whatever the mode. -/
def Obligations.AssignedVectorEntry : Prop :=
  ∀ (s : State) (n : Fin 4), s.now.reset = false → n ≠ 0 → s.sampled.accepted s.now = some (.int n) →
    Answers (step s) (EntersAt s false fun u =>
      ringed s.xm (u.readW s.xm
        (ext16 s.ireg ++ s.io.avbr.extractLsb' 1 7 ++ 0#1 ++ BitVec.ofNat 8 (4 * (n.val - 1)))))

/-- R722, D8: an unassigned encoding: under `TRAP_ENTRY` = fault the step is a fault that names PC; under real the address
of the instruction (of a directive in front of it, D18) goes to the stack, one flag of TRPBK is set, PC is 0, and nothing
else changes but the latch of /NMI (log 2, 17, 38). The bytes up to the opcode byte are those that may not be stale (log
18). -/
def Obligations.TrapEntry : Prop :=
  ∀ (s : State) (err : DecodeError), s.runs → s.decoded = .error err → s.fetchesStale s.opcodeSpan = false →
    (s.params.trapEntry = .fault → step s = .fault (.illegalInstruction s.pc)) ∧
    (s.params.trapEntry = .real → Answers (step s) fun t => ∃ u : State,
      t.pc = 0 ∧ u.sp = s.spDown s.modeBytes ∧
        Stored s u u.sp s.modeBytes (if s.ddir.isSome then ringed s.xm (s.pc - 2) else s.pc) ∧
        SameMemBut s u u.sp s.modeBytes ∧ u.io.trpbk = s.io.trpbk ||| (1#8 <<< Config.trapFlag.val) ∧
        Unchanged [.pc, .sp, .io 0x19, .eiShadow, .nmiPending] s u ∧ u.clock = s.clock ∧
        (∀ l, l ≠ .pc → t.look l = u.look l) ∧ t.mem = u.mem ∧ t.ddir = none ∧ t.eiShadow = false ∧
        t.clock = s.clock + 1 ∧ t.params = s.params)

/-- R120, D7: an instruction with a byte that was written inside the fetch window is refused (log 18). -/
def Obligations.StaleFetchRefused : Prop :=
  ∀ (s : State) (i : Instr) (rest : List Byte), s.runs → s.decoded = .ok (i, rest) →
    s.fetchesStale (maxLength - rest.length) = true → step s = .refused .staleFetch

/-- R735, R627, R750: RETN at once after the entry of NMI gives back PC, SP and all of SR, where the stack is RAM. That
the shadow of EI lives through the entry is the model's reading (log 34). -/
def Obligations.ReturnUndoesNmi : Prop :=
  ∀ s : State, Invariant s → s.stackIsRam s.modeBytes → s.now.reset = false → s.ddir = none →
    (s.nmiPending = true ∨ s.now.nmi = true) →
    ∃ t : State, step s = .next t ∧ Answers (exec .retn t) fun w => w.pc = s.pc ∧ w.sp = s.sp ∧ w.sr = s.sr ∧
      Unchanged [.pc, .sp, .sr, .ief2, .halted, .standby, .nmiPending] s w

/-- R16, R286, R289: POP pp at once after PUSH pp, in the same format, gives back SP and changes no register but PC, where
the stack is RAM. -/
def Obligations.PopUndoesPush : Prop :=
  ∀ (s : State) (p : Pair), Invariant s → s.stackIsRam s.formatBytes →
    ∃ t : State, exec (.pushQq p) s = .next t ∧ Answers (exec (.popQq p) t) fun w => Unchanged [.pc] s w

/-- R460, D18: a directive is pending for exactly the one instruction after it: after a step that ran `i`, what is pending
is the directive that `i` is, or none. -/
def Obligations.DirectiveLastsOneInstruction : Prop :=
  ∀ (s t : State) (i : Instr) (rest : List Byte), s.runsInstr i rest → step s = .next t →
    t.ddir = (s.directiveEffect i).bind Effect.ddir

/-- R107, D4: LDIW, LDDW, LDIRW and LDDRW with an odd HL or DE: refused, a fault, or, under `ODD_BLOCK_WORD` = bytewise,
the transfer byte by byte at ascending addresses, with the registers, flags and PC of the even case (log 3, 32). -/
def Obligations.OddWordTransfers : Prop :=
  ∀ (s : State) (i : Instr) (e : Effect), s.wordTransferEffect i = some e → s.wordAligned = false →
    (s.params.oddBlockWord = .refuse → exec i s = .refused .oddBlockWord) ∧
    (s.params.oddBlockWord = .fault → exec i s = .fault .oddBlockWord) ∧
    (s.params.oddBlockWord = .bytewise → Answers (exec i s)
      (HasEffect (s.copyBytes (s.pair .de) (s.pair .hl) s.formatBytes) i { e with store := none }))

/-- R513, D12: DIVUW by zero or with a quotient above FFFFh does not trap: P/V = 1, S = 0, H, N and C stay; HL and Z are
open, or under `DIV_CORNER` = unchanged HL stays and Z = 0 (log 11). -/
def Obligations.DivisionCorner : Prop :=
  ∀ (s : State) (i : Instr) (v : Word), s.divisor i = some v → s.divides v = false → Answers (exec i s) fun t =>
    ∃ (hl : Long) (z : Bool), (s.params.divCorner = .unchanged → hl = s.pair .hl ∧ z = false) ∧
      HasEffect s i
        { writes := [(s.locPair .hl, hl)], flags := flagsAre { s.flags with s := false, z := z, pv := true } } t

/-- R331 to R333: EXALL, EXXX and EXXY, encoded ED D9h, DD D9h and FD D9h, toggle their bits of SR and change nothing
else: no flag, no register value. SR = 0 gives 01010100h after EXALL. -/
def Obligations.MainSetsOfRegistersToggle : Prop :=
  ReadAs [0xED, 0xD9] .exall ∧ ReadAs [0xDD, 0xD9] .exxx ∧ ReadAs [0xFD, 0xD9] .exxy ∧
    ∀ s : State, Answers (exec .exall s) (HasEffect s .exall { writes := [(.sr, s.sr ^^^ 0x01010100)] }) ∧
      Answers (exec .exxx s) (HasEffect s .exxx { writes := [(.sr, s.sr ^^^ 0x00010000)] }) ∧
      Answers (exec .exxy s) (HasEffect s .exxy { writes := [(.sr, s.sr ^^^ 0x01000000)] })

/-- R338, R339: SWAP pp and SWAP XY, with their encodings, exchange the halves of the register, in both formats and both
modes; no flag changes. 12345678h gives 56781234h. -/
def Obligations.SwapExchangesHalves : Prop :=
  ReadAs [0xED, 0x0E] (.swapPp .bc) ∧ ReadAs [0xED, 0x1E] (.swapPp .de) ∧ ReadAs [0xED, 0x3E] (.swapPp .hl) ∧
    ReadAs [0xDD, 0x3E] (.swapXy .ix) ∧ ReadAs [0xFD, 0x3E] (.swapXy .iy) ∧
    ∀ s : State, (∀ p : Pair, Answers (exec (.swapPp p) s)
        (HasEffect s (.swapPp p) { writes := [(s.locPair p, (s.pair p).rotateLeft 16)] })) ∧
      ∀ y : Idx, Answers (exec (.swapXy y) s)
        (HasEffect s (.swapXy y) { writes := [(s.locIdx y, (s.idx y).rotateLeft 16)] })

/-- R435: EXTSW, encoded ED 75h, sign-extends HL[15:0] to HL, in both formats and both modes; no flag changes. 00008000h
gives FFFF8000h. -/
def Obligations.ExtendWordHl : Prop :=
  ReadAs [0xED, 0x75] .extsw ∧ ∀ s : State, Answers (exec .extsw s)
    (HasEffect s .extsw { writes := [(s.locPair .hl, BitVec.ofInt 32 (lo16 (s.pair .hl)).toInt)] })

/-- R628: RST p, encoded 11ttt111 with p = 8 x ttt, pushes the address after it in the width of the mode and goes to p.
FFh at 00123456h in extended mode pushes 00123457h and goes to 38h. -/
def Obligations.RestartCalls : Prop :=
  ∀ k : BitVec 3, ReadAs [0xC7 ||| (k.setWidth 8 <<< 3)] (.rstP k) ∧ ∀ s : State,
    Answers (exec (.rstP k) s) (HasEffect s (.rstP k)
      { writes := [(.sp, s.spDown s.modeBytes)]
        store := some (s.spDown s.modeBytes, s.modeBytes, ringed s.xm (s.pc + 1))
        goto := some (zext32 (k.setWidth 8 <<< 3)) })

/-- R453 to R455: RESC LCK (ED FFh), SETC LW (DD F7h) and RESC LW (DD FFh) write their bit of SR and change nothing else;
the new format governs the next instruction, which reads SR.LW. -/
def Obligations.ModeBitsSetAndClear : Prop :=
  ReadAs [0xED, 0xFF] .rescLck ∧ ReadAs [0xDD, 0xF7] .setcLw ∧ ReadAs [0xDD, 0xFF] .rescLw ∧
    ∀ s : State, Answers (exec .rescLck s) (HasEffect s .rescLck { writes := [(.sr, s.sr &&& 0xFFFFFFFD)] }) ∧
      Answers (exec .setcLw s) (HasEffect s .setcLw { writes := [(.sr, s.sr ||| 0x40)] }) ∧
      Answers (exec .rescLw s) (HasEffect s .rescLw { writes := [(.sr, s.sr &&& 0xFFFFFFBF)] }) ∧
      ∀ t : State, exec .setcLw s = .next t → t.ddir = none → t.lwEff = true

/-- R461 to R468: each directive, with its encoding, makes its own parts pending and moves PC on; no register, no flag and
no other state changes. -/
def Obligations.DirectivesSetTheirParts : Prop :=
  ReadAs [0xDD, 0xC0] .ddirW ∧ ReadAs [0xDD, 0xC1] .ddirIbW ∧ ReadAs [0xDD, 0xC2] .ddirIwW ∧ ReadAs [0xDD, 0xC3] .ddirIb ∧
    ReadAs [0xFD, 0xC0] .ddirLw ∧ ReadAs [0xFD, 0xC1] .ddirIbLw ∧ ReadAs [0xFD, 0xC2] .ddirIwLw ∧ ReadAs [0xFD, 0xC3] .ddirIw ∧
    ∀ (s : State) (i : Instr) (d : Ddir),
      (i, d) ∈ [(.ddirW, ⟨some false, .zero⟩), (.ddirIbW, ⟨some false, .ib⟩), (.ddirIwW, ⟨some false, .iw⟩),
        (.ddirIb, ⟨none, .ib⟩), (.ddirLw, ⟨some true, .zero⟩), (.ddirIbLw, ⟨some true, .ib⟩),
        (.ddirIwLw, ⟨some true, .iw⟩), (.ddirIw, ⟨none, .iw⟩)] →
      Answers (exec i s) (HasEffect s i { ddir := some d })

/-- R629, R631, R633: CALR with a displacement of 8, 16 or 24 bits, encoded ED CDh, DD CDh and FD CDh: the address after
the instruction goes to the stack in the width of the mode and PC moves by the displacement. -/
def Obligations.RelativeCallsPushAndGo : Prop :=
  (∀ e : BitVec 8, ReadAs [0xED, 0xCD, e] (.calrE8 e)) ∧
    (∀ e : BitVec 16, ReadAs [0xDD, 0xCD, wordLo e, wordHi e] (.calrE16 e)) ∧
    (∀ e : BitVec 24, ReadAs [0xFD, 0xCD, e.extractLsb' 0 8, e.extractLsb' 8 8, e.extractLsb' 16 8] (.calrE24 e)) ∧
    ∀ (s : State) (i : Instr) (n : Long) (e : Int),
      (∃ d : BitVec 8, i = .calrE8 d ∧ n = 3 ∧ e = d.toInt) ∨ (∃ d : BitVec 16, i = .calrE16 d ∧ n = 4 ∧ e = d.toInt) ∨
        (∃ d : BitVec 24, i = .calrE24 d ∧ n = 5 ∧ e = d.toInt) →
      Answers (exec i s) (HasEffect s i
        { writes := [(.sp, s.spDown s.modeBytes)]
          store := some (s.spDown s.modeBytes, s.modeBytes, ringed s.xm (s.pc + n))
          goto := some (ringed s.xm (s.pc + n + BitVec.ofInt 32 e)) })

/-- R456, R457: BTEST (ED CFh) and MTEST (DD CFh) copy bits of SR into flags; the flags their rules do not mention stay.
-/
def Obligations.TestsOfModeAndBanks : Prop :=
  ReadAs [0xED, 0xCF] .btest ∧ ReadAs [0xDD, 0xCF] .mtest ∧ ∀ s : State,
    Answers (exec .btest s) (HasEffect s .btest
      { flags := flagsAre
          { s.flags with s := s.sr.getLsbD 16, z := s.sr.getLsbD 24, pv := s.sr.getLsbD 0, c := s.sr.getLsbD 8 } }) ∧
    Answers (exec .mtest s) (HasEffect s .mtest
      { flags := flagsAre { s.flags with s := s.sr.getLsbD 7, z := s.sr.getLsbD 6, c := s.sr.getLsbD 1 } })

/-- R773, R775: /LMCS is asserted exactly for an address of the low 16 MiB with MSMER.ENLM and MSMER bit 0 set, no address
bit of 23..12 that the mask compares being 1. All mask bits 1 give 000000h to 000FFFh. That the controller decodes only
the low 16 MiB is what the spec infers. -/
def Obligations.LowerMemorySelect : Prop :=
  (∀ (s : State) (a : Long), (s.selects a).lmcs = true ↔
      a.toNat < 2 ^ 24 ∧ s.io.msmer.getLsbD 7 = true ∧ s.io.msmer.getLsbD 0 = true ∧
        ∀ k, k < 12 → (s.io.lmcs1 ++ s.io.lmcs0).getLsbD (k + 4) = true → a.getLsbD (k + 12) = false) ∧
    ∀ (s : State) (a : Long), s.io.msmer.getLsbD 7 = true → s.io.msmer.getLsbD 0 = true → s.io.lmcs1 = 0xFF →
      s.io.lmcs0 &&& 0xF0 = 0xF0 → ((s.selects a).lmcs = true ↔ a.toNat ≤ 0xFFF)

/-- R202 to R222, R279, R280, R447: the loads and stores of bytes and of I and R. Instructions: ldRR, ldRN, ldRIndHl,
ldRIdxD, ldAIndBc, ldAIndDe, ldADirNn, ldHalfN, ldHalfS, ldRHalf, ldctlADsr, ldctlAXsr, ldctlAYsr, ldIndHlR, ldIdxDR,
ldIndHlN, ldIdxDN, ldIndBcA, ldIndDeA, ldDirNnA, ldAI, ldIA, ldRA, ldAR, ldIHl, ldHlI. What LD A,R reads is open (log 35).
-/
def Obligations.BytesAreLoadedAndStored : Prop :=
  ∀ (s : State) (i : Instr) (e : Effect), (s.loadByteEffect i = some e ∨ s.storeByteEffect i = some e ∨ s.interruptRegisterEffect i = some e) →
    Answers (exec i s) (HasEffect s i e)

/-- R253 to R278, R434, R445: the loads and stores in the data format in force. Instructions: ldDdNn, ldXyNn, ldHlDirNn,
ldDdDirNn, ldXyDirNn, ldSpHl, ldSpXy, ldPpIndUu, ldPpBc, ldPpDe, ldPpHl, ldXyPp, ldPpXy, ldIxIy, ldIyIx, ldXyIndPp,
ldPpIdxD, ldYxIdxD, ldPpSpD, ldXySpD, exts, extsw, ldctlHlSr, ldDirNnHl, ldDirNnDd, ldDirNnXy, ldIndPpNn, ldIndPpUu,
ldIndPpXy, ldIdxDPp, ldIdxDYx, ldSpDPp, ldSpDXy. -/
def Obligations.WordsAreLoadedAndStored : Prop :=
  ∀ (s : State) (i : Instr) (e : Effect), (s.loadWideEffect i = some e ∨ s.storeWideEffect i = some e) →
    Answers (exec i s) (HasEffect s i e)

/-- R286 to R294: the pushes and pops. Instructions: pushQq, pushAf, pushXy, pushSr, pushNn, popQq, popXy, popAf, popSr.
-/
def Obligations.PushesAndPops : Prop :=
  ∀ (s : State) (i : Instr) (e : Effect), (s.pushEffect i = some e ∨ s.popEffect i = some e) →
    Answers (exec i s) (HasEffect s i e)

/-- R321 to R339: the set switches and the exchanges of values. Instructions: exx, exAfAfAlt, exall, exxx, exxy, exDeHl,
exBcDe, exBcHl, exBcIx, exBcIy, exDeIx, exDeIy, exHlIx, exHlIy, exIxIy, exBcBcAlt, exDeDeAlt, exHlHlAlt, exIxIxAlt,
exIyIyAlt, exAR, exRRAlt, exAIndHl, exIndSpHl, exIndSpXy, swapPp, swapXy. -/
def Obligations.ExchangesAndSetSwitches : Prop :=
  ∀ (s : State) (i : Instr) (e : Effect), (s.switchEffect i = some e ∨ s.exchangeEffect i = some e) →
    Answers (exec i s) (HasEffect s i e)

/-- R340 to R348: one step of a block transfer or search of bytes. Instructions: ldi, ldd, ldir, lddr, cpi, cpd, cpir,
cpdr. -/
def Obligations.BlockTransfersAndSearches : Prop :=
  ∀ (s : State) (i : Instr) (e : Effect), (s.transferEffect i = some e ∨ s.searchEffect i = some e) →
    Answers (exec i s) (HasEffect s i e)

/-- R349 to R352: one step of a block transfer of words, both pointers even. Instructions: ldiw, lddw, ldirw, lddrw. -/
def Obligations.WordBlockTransfers : Prop :=
  ∀ (s : State) (i : Instr) (e : Effect), s.wordAligned = true → s.wordTransferEffect i = some e →
    Answers (exec i s) (HasEffect s i e)

/-- R382 to R385, R389: addition, subtraction and comparison of bytes, with all flags. Instructions: addAR, addAN,
addAIndHl, addAIdxD, addAHalf, adcAR, adcAN, adcAIndHl, adcAIdxD, adcAHalf, subR, subN, subIndHl, subIdxD, subHalf, sbcAR,
sbcAN, sbcAIndHl, sbcAIdxD, sbcAHalf, cpR, cpN, cpIndHl, cpIdxD, cpHalf. -/
def Obligations.ByteArithmetic : Prop :=
  ∀ (s : State) (i : Instr) (e : Effect), s.arithmetic8Effect i = some e →
    Answers (exec i s) (HasEffect s i e)

/-- R386 to R388, R393 to R395: logic on bytes and TST, with all flags. Instructions: andR, andN, andIndHl, andIdxD,
andHalf, xorR, xorN, xorIndHl, xorIdxD, xorHalf, orR, orN, orIndHl, orIdxD, orHalf, tstR, tstN, tstIndHl. -/
def Obligations.ByteLogic : Prop :=
  ∀ (s : State) (i : Instr) (e : Effect), s.logic8Effect i = some e →
    Answers (exec i s) (HasEffect s i e)

/-- R390 to R392: INC and DEC of bytes, C staying. Instructions: incR, incIndHl, incIdxD, incHalf, decR, decIndHl,
decIdxD, decHalf. -/
def Obligations.ByteCounts : Prop :=
  ∀ (s : State) (i : Instr) (e : Effect), s.count8Effect i = some e →
    Answers (exec i s) (HasEffect s i e)

/-- R421 to R425, R431, R432: DAA, complement, negation and the carry. Instructions: daa, cpl, neg, ccf, scf, cplw, negw.
-/
def Obligations.AccumulatorAdjusts : Prop :=
  ∀ (s : State) (i : Instr) (e : Effect), s.accumulatorEffect i = some e →
    Answers (exec i s) (HasEffect s i e)

/-- R426 to R430, R436 to R440: NOP, HALT, SLP, the interrupt enables and modes. Instructions: nop, halt, slp, di, ei,
im0, im1, im2, im3, diN, eiN. -/
def Obligations.ProcessorControl : Prop :=
  ∀ (s : State) (i : Instr) (e : Effect), s.controlEffect i = some e →
    Answers (exec i s) (HasEffect s i e)

/-- R441 to R455: the loads to SR, SETC and RESC. Instructions: ldctlSrA, ldctlSrN, ldctlSrHl, ldctlDsrA, ldctlDsrN,
ldctlXsrA, ldctlXsrN, ldctlYsrA, ldctlYsrN, setcXm, setcLck, rescLck, setcLw, rescLw. -/
def Obligations.SelectRegisterWrites : Prop :=
  ∀ (s : State) (i : Instr) (e : Effect), s.selectRegisterEffect i = some e →
    Answers (exec i s) (HasEffect s i e)

/-- R484, R487 to R492, R501, R502: the arithmetic whose width follows the mode. Instructions: addHlDd, addXyTt,
addHlDirNn, subHlDirNn, addSpNn, subSpNn, incDd, decDd, incXy, decXy. Under XM_ADD_FLAGS = draw H and C are open in
extended mode (D22). -/
def Obligations.AddressArithmetic : Prop :=
  ∀ (s : State) (i : Instr) (e : Effect), s.addressArithmeticEffect i = some e →
    Answers (exec i s) (HasEffect s i e)

/-- R485, R486, R493 to R496, R500: addition, subtraction and comparison of words on HL. Instructions: adcHlDd, sbcHlDd,
addwHlPp, addwHlNn, addwHlXy, addwHlIdxD, adcwHlPp, adcwHlNn, adcwHlXy, adcwHlIdxD, subwHlPp, subwHlNn, subwHlXy,
subwHlIdxD, sbcwHlPp, sbcwHlNn, sbcwHlXy, sbcwHlIdxD, cpwHlPp, cpwHlNn, cpwHlXy, cpwHlIdxD. -/
def Obligations.WordArithmetic : Prop :=
  ∀ (s : State) (i : Instr) (e : Effect), s.arithmetic16Effect i = some e →
    Answers (exec i s) (HasEffect s i e)

/-- R497 to R499: logic on words. Instructions: andwHlPp, andwHlNn, andwHlXy, andwHlIdxD, xorwHlPp, xorwHlNn, xorwHlXy,
xorwHlIdxD, orwHlPp, orwHlNn, orwHlXy, orwHlIdxD. -/
def Obligations.WordLogic : Prop :=
  ∀ (s : State) (i : Instr) (e : Effect), s.logic16Effect i = some e →
    Answers (exec i s) (HasEffect s i e)

/-- R510 to R512: MLT, MULTW and MULTUW as exact products. Instructions: mltDd, multwHlWop, multwHlNn, multwHlIdxD,
multuwHlWop, multuwHlNn, multuwHlIdxD. Under MULT_C_RULE = draw C is open (D32). -/
def Obligations.Multiplications : Prop :=
  ∀ (s : State) (i : Instr) (e : Effect), s.multiplyEffect i = some e →
    Answers (exec i s) (HasEffect s i e)

/-- R513: DIVUW where the divisor is not 0 and the quotient fits; else `DivisionCorner`. Instructions: divuwHlWop,
divuwHlNn, divuwHlIdxD. Where the divisor is 0 or the quotient does not fit, the table has no entry and DivisionCorner
speaks. -/
def Obligations.Divisions : Prop :=
  ∀ (s : State) (i : Instr) (e : Effect), s.divideEffect i = some e →
    Answers (exec i s) (HasEffect s i e)

/-- R543 to R555: rotates and shifts of bytes and of digits. Instructions: rlcR, rlcIndHl, rlcIdxD, rrcR, rrcIndHl,
rrcIdxD, rlR, rlIndHl, rlIdxD, rrR, rrIndHl, rrIdxD, slaR, slaIndHl, slaIdxD, sraR, sraIndHl, sraIdxD, srlR, srlIndHl,
srlIdxD, rlca, rrca, rla, rra, rld, rrd. -/
def Obligations.ByteRotatesAndShifts : Prop :=
  ∀ (s : State) (i : Instr) (e : Effect), (s.rotateEffect i = some e ∨ s.digitEffect i = some e) →
    Answers (exec i s) (HasEffect s i e)

/-- R560 to R567: rotates and shifts of words. Instructions: rlcwWop, rlcwIdxD, rrcwWop, rrcwIdxD, rlwWop, rlwIdxD,
rrwWop, rrwIdxD, slawWop, slawIdxD, srawWop, srawIdxD, srlwWop, srlwIdxD. -/
def Obligations.WordRotatesAndShifts : Prop :=
  ∀ (s : State) (i : Instr) (e : Effect), s.rotateWordEffect i = some e →
    Answers (exec i s) (HasEffect s i e)

/-- R580 to R583: BIT, SET and RES. Instructions: bitBR, setBR, resBR, bitBIndHl, setBIndHl, resBIndHl, bitBIdxD,
setBIdxD, resBIdxD. S and P/V after BIT are open (log 11). -/
def Obligations.BitInstructions : Prop :=
  ∀ (s : State) (i : Instr) (e : Effect), s.bitEffect i = some e →
    Answers (exec i s) (HasEffect s i e)

/-- R600 to R618: the jumps. Instructions: jpNn, jpCcNn, jpIndHl, jpIndXy, jrE8, jrCcE8, djnzE8, jrE16, jrCcE16, djnzE16,
jrE24, jrCcE24, djnzE24. -/
def Obligations.Jumps : Prop :=
  ∀ (s : State) (i : Instr) (e : Effect), s.jumpEffect i = some e →
    Answers (exec i s) (HasEffect s i e)

/-- R621 to R634: calls, restarts and returns. Instructions: callNn, callCcNn, rstP, calrE8, calrCcE8, calrE16, calrCcE16,
calrE24, calrCcE24, ret, reti, retCc, retn. -/
def Obligations.CallsAndReturns : Prop :=
  ∀ (s : State) (i : Instr) (e : Effect), (s.callEffect i = some e ∨ s.returnEffect i = some e) →
    Answers (exec i s) (HasEffect s i e)

/-- R651 to R654, R665 to R667, R671, R672, R677 to R679: single inputs and outputs in the external space. Instructions:
inAPortN, inRPortC, inaADirNn, inwBcPortC, inwDePortC, inwHlPortC, inawHlDirNn, outPortNA, outPortCR, outPortCN,
outaDirNnA, outwPortCBc, outwPortCDe, outwPortCHl, outwPortCNn, outawDirNnHl. -/
def Obligations.InputAndOutput : Prop :=
  ∀ (s : State) (i : Instr) (e : Effect), (s.inputEffect i = some e ∨ s.outputEffect i = some e) →
    Answers (exec i s) (HasEffect s i e)

/-- R655 to R662: one step of block input and output of bytes. Instructions: ini, ind, inir, indr, outi, outd, otir, otdr.
S, H, P/V and C afterwards are open (R655, U1, D27). -/
def Obligations.ByteBlockInputAndOutput : Prop :=
  ∀ (s : State) (i : Instr) (e : Effect), s.blockIoEffect i = some e →
    Answers (exec i s) (HasEffect s i e)

/-- R673 to R676, R680 to R683: one step of block input and output of words. Instructions: iniw, indw, inirw, indrw,
outiw, outdw, otirw, otdrw. S, H, P/V and C afterwards are open (R670, D23, U1). -/
def Obligations.WordBlockInputAndOutput : Prop :=
  ∀ (s : State) (i : Instr) (e : Effect), s.blockWordIoEffect i = some e →
    Answers (exec i s) (HasEffect s i e)

/-- R691 to R698: the accesses to the internal I/O space and one step of block output to it. Instructions: in0RPortN,
in0PortN, out0PortNR, tstioN, otim, otdm, otimr, otdmr. That at an address without a register a read is open and a write
is dropped is the model's choice of what U9 offers (log 28). That N = 1 after the block forms is the model's choice too,
by D23 and U1 against the words of R695 (log 40); S, H, P/V and C are open there. -/
def Obligations.InternalInputAndOutput : Prop :=
  ∀ (s : State) (i : Instr) (e : Effect), (s.internalIoEffect i = some e ∨ s.internalBlockEffect i = some e) →
    Answers (exec i s) (HasEffect s i e)
end

