-- ==== Sys2Proof/Laws/Exact.lean ====
section
/-! SUPPORT. The flag computations of the machine agree with the exact arithmetic the claims are told in. -/

namespace Sys2Proof.Machine

theorem negative_eq_msb {n : Nat} (t : BitVec n) : decide (t.toInt < 0) = t.msb := (BitVec.msb_eq_toInt).symm

theorem zero_eq_beq {n : Nat} (t : BitVec n) : decide (t.toNat = 0) = (t == 0) := by
  rw [Bool.eq_iff_iff]
  simp [BitVec.toNat_eq]

theorem addC_toNat {n : Nat} (a b : BitVec n) (c : Bool) :
    (addC a b c).toNat = (a.toNat + b.toNat + c.toNat) % 2 ^ n := by
  simp [addC, carryNat, BitVec.toNat_add]

theorem addC_eq {n : Nat} (a b : BitVec n) (c : Bool) : BitVec.ofNat n (a.toNat + b.toNat + c.toNat) = addC a b c := by
  apply BitVec.eq_of_toNat_eq
  rw [addC_toNat, BitVec.toNat_ofNat]

theorem subC_eq {n : Nat} (a b : BitVec n) (c : Bool) :
    BitVec.ofInt n ((a.toNat : Int) - b.toNat - c.toNat) = subC a b c := by
  have h : ∀ x y : Int, BitVec.ofInt n (x - y) = BitVec.ofInt n x - BitVec.ofInt n y := by
    intro x y
    apply BitVec.eq_of_toInt_eq
    rw [BitVec.toInt_sub, BitVec.toInt_ofInt, BitVec.toInt_ofInt, BitVec.toInt_ofInt]
    simp
  rw [h, h]
  simp [subC, carryNat]

theorem msb_iff {n : Nat} (a : BitVec (n + 1)) : a.msb = decide (2 ^ n ≤ a.toNat) := by
  simp [BitVec.msb_eq_decide]

theorem toInt_cases {n : Nat} (a : BitVec (n + 1)) :
    a.toInt = if 2 ^ n ≤ a.toNat then (a.toNat : Int) - 2 ^ (n + 1) else a.toNat := by
  have h := a.toInt_eq_toNat_cond
  rw [h]
  have : (2 : Nat) ^ (n + 1) = 2 * 2 ^ n := by rw [Nat.pow_succ]; omega
  split <;> split <;> push_cast <;> omega

/-- R381, R482: the sum and its flags are those of exact arithmetic. -/
theorem exactAdd_eq {n : Nat} (half : Nat) (a b : BitVec (n + 1)) (c : Bool) :
    exactAdd half a b c = (addC a b c, addFlags half a b c) := by
  have ha := a.isLt
  have hb := b.isLt
  have hc : c.toNat ≤ 1 := by cases c <;> simp
  have hp : (2 : Nat) ^ (n + 1) = 2 * 2 ^ n := by rw [Nat.pow_succ]; omega
  have ht := addC_toNat a b c
  have hpz : (2 : Int) ^ (n + 1) = 2 * 2 ^ n := by rw [Int.pow_succ]; omega
  have hcast : ((2 ^ n : Nat) : Int) = (2 : Int) ^ n := by push_cast; rfl
  unfold exactAdd addFlags
  simp only [addC_eq, negative_eq_msb, zero_eq_beq, carryNat, Prod.mk.injEq, Flags.mk.injEq, true_and, and_true, ge_iff_le,
    Nat.add_sub_cancel]
  rw [toInt_cases, toInt_cases, msb_iff, msb_iff, msb_iff, ht]
  rw [Bool.eq_iff_iff]
  simp only [decide_eq_true_eq, Bool.and_eq_true, beq_iff_eq, bne_iff_ne, ne_eq, decide_eq_decide]
  by_cases h1 : 2 ^ n ≤ a.toNat <;> by_cases h2 : 2 ^ n ≤ b.toNat <;> simp only [h1, h2, if_true, if_false] <;>
    by_cases h3 : a.toNat + b.toNat + c.toNat < 2 ^ (n + 1)
  all_goals first
    | rw [Nat.mod_eq_of_lt h3]
    | rw [Nat.mod_eq_sub_mod (by omega), Nat.mod_eq_of_lt (by omega)]
  all_goals simp
  all_goals omega

theorem subC_toNat {n : Nat} (a b : BitVec n) (c : Bool) :
    (subC a b c).toNat = (a.toNat + (2 ^ n - b.toNat) + (2 ^ n - c.toNat % 2 ^ n)) % 2 ^ n := by
  simp [subC, carryNat, BitVec.toNat_sub]
  congr 1
  omega

/-- R381, R482: the difference and its flags are those of exact arithmetic. -/
theorem exactSub_eq {n : Nat} (half : Nat) (a b : BitVec (n + 1)) (c : Bool) :
    exactSub half a b c = (subC a b c, subFlags half a b c) := by
  have ha := a.isLt
  have hb := b.isLt
  have hc : c.toNat ≤ 1 := by cases c <;> simp
  have hp : (2 : Nat) ^ (n + 1) = 2 * 2 ^ n := by rw [Nat.pow_succ]; omega
  have h1p : 1 ≤ 2 ^ n := Nat.one_le_two_pow
  have ht := subC_toNat a b c
  have hv : (subC a b c).toNat =
      if b.toNat + c.toNat ≤ a.toNat then a.toNat - (b.toNat + c.toNat) else a.toNat + 2 ^ (n + 1) - (b.toNat + c.toNat) := by
    rw [ht, Nat.mod_eq_of_lt (show c.toNat < 2 ^ (n + 1) by omega)]
    split
    · rw [Nat.mod_eq_sub_mod (by omega), Nat.mod_eq_sub_mod (by omega), Nat.mod_eq_of_lt (by omega)]
      omega
    · by_cases h : a.toNat + (2 ^ (n + 1) - b.toNat) + (2 ^ (n + 1) - c.toNat) < 2 ^ (n + 1)
      · omega
      · rw [Nat.mod_eq_sub_mod (by omega), Nat.mod_eq_of_lt (by omega)]
        omega
  have hpz : (2 : Int) ^ (n + 1) = 2 * 2 ^ n := by rw [Int.pow_succ]; omega
  have hcast : ((2 ^ n : Nat) : Int) = (2 : Int) ^ n := by push_cast; rfl
  unfold exactSub subFlags
  simp only [subC_eq, negative_eq_msb, zero_eq_beq, carryNat, Prod.mk.injEq, Flags.mk.injEq, true_and,
    Nat.add_sub_cancel]
  refine ⟨rfl, ?_, rfl⟩
  rw [toInt_cases, toInt_cases, msb_iff, msb_iff, msb_iff, hv]
  rw [Bool.eq_iff_iff]
  simp only [decide_eq_true_eq, Bool.and_eq_true, bne_iff_ne, ne_eq, decide_eq_decide]
  clear ht hv
  by_cases h3 : b.toNat + c.toNat ≤ a.toNat <;> by_cases h1 : 2 ^ n ≤ a.toNat <;> by_cases h2 : 2 ^ n ≤ b.toNat <;>
    simp only [h1, h2, h3, if_true, if_false] <;> simp <;> omega

theorem parity_foldr (l : List Nat) (p : Nat → Bool) :
    ((l.filter p).length % 2 == 0) = !(l.foldr (fun i b => p i ^^ b) false) := by
  induction l with
  | nil => rfl
  | cons x xs ih =>
    rw [List.filter_cons, List.foldr_cons]
    cases hx : p x
    · simp [ih]
    · have : ((xs.filter p).length + 1) % 2 = 0 ↔ ¬ (xs.filter p).length % 2 = 0 := by omega
      rw [if_pos rfl, List.length_cons, Bool.eq_iff_iff, beq_iff_eq, this]
      have ih' := Bool.eq_iff_iff.mp ih
      rw [beq_iff_eq] at ih'
      rw [ih']
      cases List.foldr (fun i b => p i ^^ b) false xs <;> simp

theorem parityEven_byte (v : Byte) : parityEven v = evenParity v := by
  rw [parityEven, parity_foldr]
  simp [List.range, List.range.loop, evenParity]

theorem parityEven_word (v : Word) : parityEven v = evenParity16 v := by
  rw [parityEven, parity_foldr, evenParity16]
  simp only [List.range, List.range.loop, evenParity, wordLo, wordHi, List.foldr, BitVec.getLsbD_extractLsb', Bool.xor_false]
  simp only [Nat.reduceAdd, Nat.reduceLT, decide_true, Bool.true_and]
  generalize v.getLsbD 0 = b0
  generalize v.getLsbD 1 = b1
  generalize v.getLsbD 2 = b2
  generalize v.getLsbD 3 = b3
  generalize v.getLsbD 4 = b4
  generalize v.getLsbD 5 = b5
  generalize v.getLsbD 6 = b6
  generalize v.getLsbD 7 = b7
  simp only [Bool.xor_assoc]
  generalize (v.getLsbD 8 ^^ (v.getLsbD 9 ^^ _)) = hi
  cases hi <;> simp

/-- R381: the flags of a byte of logic. -/
theorem exactLogic_byte (h : Bool) (t : Byte) : exactLogic h t = logicFlags8 h t := by
  simp only [exactLogic, logicFlags8, negative_eq_msb, zero_eq_beq, parityEven_byte]

/-- R482: the flags of a word of logic. -/
theorem exactLogic_word (h : Bool) (t : Word) : exactLogic h t = logicFlags16 h t := by
  simp only [exactLogic, logicFlags16, negative_eq_msb, zero_eq_beq, parityEven_word]

/-- R542: the flags of a shift of a byte. -/
theorem exactShift_byte (t : Byte) (c : Bool) : exactShift t c = shiftFlags8 t c := by
  simp only [exactShift, exactLogic_byte, logicFlags8, shiftFlags8]

/-- R542, R560: the flags of a shift of a word. -/
theorem exactShift_word (t : Word) (c : Bool) : exactShift t c = shiftFlags16 t c := by
  simp only [exactShift, exactLogic_word, logicFlags16, shiftFlags16]

/-- R650: the flags of an input of a byte. -/
theorem exactInput_byte (old : Flags) (t : Byte) : exactInput old t = inputFlags8 old t := by
  simp only [exactInput, exactLogic_byte, logicFlags8, inputFlags8]

/-- R671: the flags of an input of a word. -/
theorem exactInput_word (old : Flags) (t : Word) : exactInput old t = inputFlags16 old t := by
  simp only [exactInput, exactLogic_word, logicFlags16, inputFlags16]

/-- R484: the AW-bit sum is the one of `addr_add`. -/
theorem addAw_eq (s : State) (a b : Long) : s.addAw a b = s.modeSum a b := rfl

/-- R492: the AW-bit difference. -/
theorem subAw_eq (s : State) (a b : Long) : s.subAw a b = s.modeDiff a b := by
  unfold State.subAw State.modeDiff addrAdd
  split
  · exact (BitVec.sub_eq_add_neg a b).symm
  · have h : lo16 (-b) = -lo16 b := by
      apply BitVec.eq_of_toNat_eq
      simp [lo16]
      omega
    rw [h, ← BitVec.sub_eq_add_neg]

/-- R484: the flags of an AW-bit addition. -/
theorem addressAddFlags_ok (s : State) (a b : Long) (P : Flags → Prop) (h : s.modeAdd a b = some P) :
    P (s.addressAddFlags a b) := by
  obtain rfl := Option.some.inj h
  have h16 : exactAdd 12 (lo16 a) (lo16 b) false = _ := exactAdd_eq 12 (lo16 a) (lo16 b) false
  have h32 : exactAdd 12 a b false = _ := exactAdd_eq 12 a b false
  rw [h16, h32]
  unfold State.addressAddFlags
  refine ⟨rfl, rfl, rfl, rfl, fun hn => ?_, fun hw => ?_⟩
  · rcases hn with hx | hx <;> simp [hx]
  · simp [hw.1, hw.2]

/-- R492: the flags of an AW-bit subtraction. -/
theorem addressSubFlags_ok (s : State) (a b : Long) (P : Flags → Prop) (h : s.modeSub a b = some P) :
    P (s.addressSubFlags a b) := by
  obtain rfl := Option.some.inj h
  have h16 : exactSub 12 (lo16 a) (lo16 b) false = _ := exactSub_eq 12 (lo16 a) (lo16 b) false
  have h32 : exactSub 12 a b false = _ := exactSub_eq 12 a b false
  rw [h16, h32]
  unfold State.addressSubFlags
  refine ⟨rfl, rfl, rfl, rfl, fun hn => ?_, fun hw => ?_⟩
  · rcases hn with hx | hx <;> simp [hx]
  · simp [hw.1, hw.2]

/-- R511: the signed product, exactly. -/
theorem signedProduct_eq (a b : Word) : signedProduct a b = BitVec.ofInt 32 (a.toInt * b.toInt) := by
  apply BitVec.eq_of_toInt_eq
  simp [signedProduct, sext32, BitVec.toInt_mul, BitVec.toInt_ofInt, BitVec.toInt_signExtend_of_le]

theorem word_toInt_bounds (a : Word) : -2 ^ 15 ≤ a.toInt ∧ a.toInt < 2 ^ 15 := by
  have h := toInt_cases (n := 15) a
  have ha := a.isLt
  rw [h]
  split <;> omega

theorem signedProduct_bounds (a b : Word) : -2 ^ 30 ≤ a.toInt * b.toInt ∧ a.toInt * b.toInt ≤ 2 ^ 30 := by
  obtain ⟨h1, h2⟩ := word_toInt_bounds a
  obtain ⟨h3, h4⟩ := word_toInt_bounds b
  constructor <;> nlinarith

theorem signedProduct_toInt (a b : Word) : (signedProduct a b).toInt = a.toInt * b.toInt := by
  obtain ⟨h1, h2⟩ := signedProduct_bounds a b
  rw [signedProduct_eq, BitVec.toInt_ofInt, Int.bmod_eq_of_le] <;> omega

/-- R511: C says that the signed product needs more than 16 bits. -/
theorem signedProduct_carry (a b : Word) :
    (signedProduct a b != sext32 (lo16 (signedProduct a b))) =
      decide (a.toInt * b.toInt < -2 ^ 15 ∨ 2 ^ 15 ≤ a.toInt * b.toInt) := by
  obtain ⟨h1, h2⟩ := signedProduct_bounds a b
  have ht := signedProduct_toInt a b
  generalize signedProduct a b = t at *
  generalize a.toInt * b.toInt = p at *
  subst ht
  have hs : (sext32 (lo16 t)).toInt = t.toInt.bmod (2 ^ 16) := by
    rw [sext32, BitVec.toInt_signExtend_of_le (by omega), lo16, BitVec.toInt_eq_toNat_bmod, BitVec.toInt_eq_toNat_bmod]
    simp
    rw [Int.bmod_def, Int.bmod_def, Int.bmod_def]
    omega
  rw [Bool.eq_iff_iff, bne_iff_ne, ne_eq, ← BitVec.toInt_inj, hs, decide_eq_true_eq, Int.bmod_def]
  split <;> omega

/-- R512: the unsigned product, exactly. -/
theorem unsignedProduct_toNat (a b : Word) : (unsignedProduct a b).toNat = a.toNat * b.toNat := by
  have ha := a.isLt
  have hb := b.isLt
  have : a.toNat * b.toNat < 2 ^ 32 := by nlinarith
  simp only [unsignedProduct, zext32, BitVec.toNat_mul, BitVec.toNat_setWidth]
  rw [Nat.mod_eq_of_lt (show a.toNat < 2 ^ 32 by omega), Nat.mod_eq_of_lt (show b.toNat < 2 ^ 32 by omega),
    Nat.mod_eq_of_lt this]

theorem unsignedProduct_eq (a b : Word) : unsignedProduct a b = BitVec.ofNat 32 (a.toNat * b.toNat) := by
  rw [← unsignedProduct_toNat, BitVec.ofNat_toNat, BitVec.setWidth_eq]

/-- R512: C says that the unsigned product needs more than 16 bits. -/
theorem unsignedProduct_carry (a b : Word) : (ext16 (unsignedProduct a b) != 0) = decide (2 ^ 16 ≤ a.toNat * b.toNat) := by
  have h := unsignedProduct_toNat a b
  generalize unsignedProduct a b = t at *
  rw [← h, Bool.eq_iff_iff, bne_iff_ne, ne_eq, BitVec.toNat_eq, decide_eq_true_eq]
  have := t.isLt
  simp [ext16, Nat.shiftRight_eq_div_pow]
  omega

/-- R510: the product of two bytes, exactly. -/
theorem byteProduct_eq (w : Word) : byteProduct w = BitVec.ofNat 16 ((wordHi w).toNat * (wordLo w).toNat) := by
  apply BitVec.eq_of_toNat_eq
  have h1 := (wordHi w).isLt
  have h2 := (wordLo w).isLt
  rw [byteProduct, BitVec.toNat_mul, BitVec.toNat_setWidth, BitVec.toNat_setWidth, BitVec.toNat_ofNat,
    Nat.mod_eq_of_lt (show (wordHi w).toNat < 2 ^ 16 by omega), Nat.mod_eq_of_lt (show (wordLo w).toNat < 2 ^ 16 by omega)]

/-- R513: where there is a quotient, HL and Z after the division, exactly. -/
theorem quotient_eq (s : State) (v : Word) (h : s.divides v = true) :
    s.quotient (s.pair .hl) v =
      (BitVec.ofNat 32 ((s.pair .hl).toNat % v.toNat * 2 ^ 16 + (s.pair .hl).toNat / v.toNat),
        decide ((s.pair .hl).toNat / v.toNat = 0)) := by
  simp only [State.divides, decide_eq_true_eq] at h
  have hd : dividable (s.pair .hl) v = true := by
    simp only [dividable, Bool.and_eq_true, bne_iff_ne, ne_eq, BitVec.toNat_eq, decide_eq_true_eq]
    exact ⟨h.1, by omega⟩
  rw [State.quotient, if_pos hd, Prod.mk.injEq]
  refine ⟨?_, rfl⟩
  have hr : (s.pair .hl).toNat % v.toNat < 2 ^ 16 := lt_trans (Nat.mod_lt _ (by omega)) v.isLt
  have hq := h.2
  generalize (s.pair .hl).toNat % v.toNat = r at *
  generalize (s.pair .hl).toNat / v.toNat = q at *
  apply BitVec.eq_of_toNat_eq
  rw [BitVec.toNat_append, BitVec.toNat_ofNat, BitVec.toNat_ofNat, BitVec.toNat_ofNat, Nat.mod_eq_of_lt hr,
    Nat.mod_eq_of_lt hq, Nat.shiftLeft_eq, Nat.mul_comm r, ← Nat.two_pow_add_eq_or_of_lt hq]
  omega

/-- R513: where there is a quotient, the machine divides. -/
theorem dividable_of_divides (s : State) (v : Word) (h : s.divides v = true) : dividable (s.pair .hl) v = true := by
  simp only [State.divides, decide_eq_true_eq] at h
  simp only [dividable, Bool.and_eq_true, bne_iff_ne, ne_eq, BitVec.toNat_eq, decide_eq_true_eq]
  exact ⟨h.1, by omega⟩

/-- R543: a shift up by one, exactly. -/
theorem shiftedInLow_eq {n : Nat} (v : BitVec n) (b : Bool) :
    shiftedInLow v b = (v <<< 1) ||| BitVec.ofNat n (carryNat b) := by
  apply BitVec.eq_of_toNat_eq
  rw [shiftedInLow, BitVec.toNat_ofNat, BitVec.toNat_or, BitVec.toNat_shiftLeft, BitVec.toNat_ofNat, Nat.shiftLeft_eq,
    ← Nat.or_mod_two_pow]
  congr 1
  have h := Nat.two_pow_add_eq_or_of_lt (show b.toNat < 2 ^ 1 by cases b <;> decide) v.toNat
  rw [carryNat, Nat.mul_comm v.toNat, ← h]

/-- R543, R560: a shift down by one, exactly. -/
theorem shiftedInHigh_eq {n : Nat} (v : BitVec (n + 1)) (b : Bool) :
    shiftedInHigh v b = (v >>> 1) ||| (BitVec.ofNat (n + 1) (carryNat b) <<< n) := by
  have hv := v.isLt
  have hp : (2 : Nat) ^ (n + 1) = 2 * 2 ^ n := by rw [Nat.pow_succ]; omega
  apply BitVec.eq_of_toNat_eq
  rw [shiftedInHigh, BitVec.toNat_ofNat, BitVec.toNat_or, BitVec.toNat_shiftLeft, BitVec.toNat_ushiftRight, BitVec.toNat_ofNat,
    Nat.shiftLeft_eq, Nat.shiftRight_eq_div_pow, Nat.add_sub_cancel]
  have h1 : 1 % 2 ^ (n + 1) = 1 := Nat.mod_eq_of_lt (by have := Nat.one_le_two_pow (n := n); omega)
  have hd : v.toNat / 2 ^ 1 < 2 ^ n := by omega
  cases b
  · simp only [carryNat, Bool.toNat_false, Nat.zero_mod, Nat.zero_mul, Nat.add_zero, Nat.or_zero]
    rw [Nat.mod_eq_of_lt (by omega), Nat.pow_one]
  · simp only [carryNat, Bool.toNat_true, h1, Nat.one_mul]
    have h := Nat.two_pow_add_eq_or_of_lt hd 1
    rw [Nat.mod_eq_of_lt (show 2 ^ n < 2 ^ (n + 1) by omega), Nat.lor_comm, ← Nat.mul_one (2 ^ n), ← h, Nat.pow_one,
      Nat.mod_eq_of_lt] <;> omega

/-- R552, R566: an arithmetic shift of a byte, exactly. -/
theorem sshiftRight_byte (v : Byte) : v.sshiftRight 1 = shiftedInHigh v v.msb := by
  revert v
  decide

end Sys2Proof.Machine
end

