-- ==== Sys2Proof/Laws/Memory.lean ====
section
/-! SUPPORT. Memory: a read after a write, and the canonical form kept. -/

namespace Sys2Proof.Machine

theorem memory_read_erase (m : Memory) (a b : Nat) :
    (Memory.erase m a).read b = if b = a then Memory.unlisted else m.read b := by
  induction m with
  | nil => simp [Memory.erase, Memory.read]
  | cons c m ih =>
    by_cases h : c.1 = a
    · simp only [Memory.erase, h, if_true, ih, Memory.read]
      by_cases hb : b = a
      · simp [hb]
      · simp [hb, Ne.symm hb]
    · simp only [Memory.erase, h, if_false, Memory.read, ih]
      by_cases hc : c.1 = b
      · have : b ≠ a := fun e => h (hc.trans e)
        simp [hc, this]
      · simp [hc]

theorem memory_read_insert (m : Memory) (a b : Nat) (v : Byte) (h : ∀ c ∈ m, c.1 ≠ a) :
    (Memory.insert m a v).read b = if b = a then v else m.read b := by
  induction m with
  | nil => simp [Memory.insert, Memory.read, eq_comm]
  | cons c m ih =>
    have hc : c.1 ≠ a := h c (by simp)
    have ih' := ih (fun d hd => h d (by simp [hd]))
    by_cases hlt : a < c.1
    · simp only [Memory.insert, hlt, if_true, Memory.read]
      by_cases hb : b = a
      · simp [hb]
      · simp [hb, Ne.symm hb]
    · simp only [Memory.insert, hlt, if_false, Memory.read, ih']
      by_cases hcb : c.1 = b
      · have : b ≠ a := fun e => hc (hcb.trans e)
        simp [hcb, this]
      · simp [hcb]

theorem memory_mem_erase (m : Memory) (a : Nat) (c : Host.Cell) : c ∈ Memory.erase m a ↔ c ∈ m ∧ c.1 ≠ a := by
  induction m with
  | nil => simp [Memory.erase]
  | cons d m ih =>
    by_cases h : d.1 = a
    · simp only [Memory.erase, h, if_true, ih, List.mem_cons]
      constructor
      · rintro ⟨h1, h2⟩
        exact ⟨.inr h1, h2⟩
      · rintro ⟨rfl | h1, h2⟩
        · exact absurd h h2
        · exact ⟨h1, h2⟩
    · simp only [Memory.erase, h, if_false, List.mem_cons, ih]
      constructor
      · rintro (rfl | ⟨h1, h2⟩)
        · exact ⟨.inl rfl, h⟩
        · exact ⟨.inr h1, h2⟩
      · rintro ⟨rfl | h1, h2⟩
        · exact .inl rfl
        · exact .inr ⟨h1, h2⟩

/-- What a byte of memory reads as after a write: the datum at its address, elsewhere what it was. -/
theorem memory_read_write (m : Memory) (a b : Nat) (v : Byte) :
    (Memory.write m a v).read b = if b = a then v else m.read b := by
  unfold Memory.write
  by_cases hv : v = Memory.unlisted
  · simp only [hv, if_true, memory_read_erase]
  · simp only [hv, if_false]
    rw [memory_read_insert _ _ _ _ (fun c hc => ((memory_mem_erase m a c).1 hc).2), memory_read_erase]
    by_cases hb : b = a <;> simp [hb]

theorem memory_mem_insert (m : Memory) (a : Nat) (v : Byte) (c : Host.Cell) :
    c ∈ Memory.insert m a v ↔ c = (a, v) ∨ c ∈ m := by
  induction m with
  | nil => simp [Memory.insert]
  | cons d m ih =>
    by_cases h : a < d.1
    · simp [Memory.insert, h]
    · simp only [Memory.insert, h, if_false, List.mem_cons, ih]
      tauto

theorem memory_rising_erase (m : Memory) (a : Nat) (h : Memory.rising m = true) : Memory.rising (Memory.erase m a) = true := by
  induction m with
  | nil => rfl
  | cons c m ih =>
    simp only [Memory.rising, Bool.and_eq_true, List.all_eq_true, decide_eq_true_eq] at h
    by_cases hc : c.1 = a
    · simpa only [Memory.erase, hc, if_true] using ih h.2
    · simp only [Memory.erase, hc, if_false, Memory.rising, Bool.and_eq_true, List.all_eq_true, decide_eq_true_eq]
      exact ⟨fun d hd => h.1 d ((memory_mem_erase m a d).1 hd).1, ih h.2⟩

theorem memory_rising_insert (m : Memory) (a : Nat) (v : Byte) (h : Memory.rising m = true) (hn : ∀ c ∈ m, c.1 ≠ a) :
    Memory.rising (Memory.insert m a v) = true := by
  induction m with
  | nil => rfl
  | cons c m ih =>
    have hr := h
    simp only [Memory.rising, Bool.and_eq_true, List.all_eq_true, decide_eq_true_eq] at h
    by_cases hlt : a < c.1
    · simp only [Memory.insert, hlt, if_true]
      rw [Memory.rising, Bool.and_eq_true]
      refine ⟨?_, hr⟩
      simp only [List.all_eq_true, decide_eq_true_eq, List.mem_cons]
      rintro d (rfl | hd)
      · exact hlt
      · exact lt_trans hlt (h.1 d hd)
    · simp only [Memory.insert, hlt, if_false, Memory.rising, Bool.and_eq_true, List.all_eq_true, decide_eq_true_eq]
      refine ⟨fun d hd => ?_, ih h.2 (fun d hd => hn d (by simp [hd]))⟩
      rcases (memory_mem_insert m a v d).1 hd with rfl | hd
      · have := hn c (by simp)
        show c.1 < a
        omega
      · exact h.1 d hd

/-- A write keeps the canonical form. -/
theorem memory_wf_write (m : Memory) (a : Nat) (v : Byte) (h : Memory.wf m = true) (ha : a < 2 ^ 32) :
    Memory.wf (Memory.write m a v) = true := by
  simp only [Memory.wf, Bool.and_eq_true, List.all_eq_true, decide_eq_true_eq, bne_iff_ne] at h ⊢
  obtain ⟨hr, hc⟩ := h
  unfold Memory.write
  by_cases hv : v = Memory.unlisted
  · rw [if_pos hv]
    exact ⟨memory_rising_erase m a hr, fun c h => hc c ((memory_mem_erase m a c).1 h).1⟩
  · rw [if_neg hv]
    refine ⟨memory_rising_insert _ a v (memory_rising_erase m a hr) (fun c h => ((memory_mem_erase m a c).1 h).2), ?_⟩
    intro c h
    rcases (memory_mem_insert _ a v c).1 h with rfl | h
    · exact ⟨ha, hv⟩
    · exact hc c ((memory_mem_erase m a c).1 h).1

end Sys2Proof.Machine
end

