-- ==== Sys2Proof/Laws/State.lean ====
section
/-! SUPPORT. What each update of the state does to each field, one lemma per field per update, true by rfl. -/

namespace Sys2Proof.Machine

variable (s : State)

@[simp] theorem srUpdate_gp (m v : Long) : (s.srUpdate m v).gp = s.gp := rfl
@[simp] theorem srUpdate_af (m v : Long) : (s.srUpdate m v).af = s.af := rfl
@[simp] theorem srUpdate_ix (m v : Long) : (s.srUpdate m v).ix = s.ix := rfl
@[simp] theorem srUpdate_iy (m v : Long) : (s.srUpdate m v).iy = s.iy := rfl
@[simp] theorem srUpdate_pc (m v : Long) : (s.srUpdate m v).pc = s.pc := rfl
@[simp] theorem srUpdate_sp (m v : Long) : (s.srUpdate m v).sp = s.sp := rfl
@[simp] theorem srUpdate_ireg (m v : Long) : (s.srUpdate m v).ireg = s.ireg := rfl
@[simp] theorem srUpdate_r (m v : Long) : (s.srUpdate m v).r = s.r := rfl
@[simp] theorem srUpdate_sr (m v : Long) : (s.srUpdate m v).sr = maskedBits m s.sr v := rfl
@[simp] theorem srUpdate_ief2 (m v : Long) : (s.srUpdate m v).ief2 = s.ief2 := rfl
@[simp] theorem srUpdate_ddir (m v : Long) : (s.srUpdate m v).ddir = s.ddir := rfl
@[simp] theorem srUpdate_halted (m v : Long) : (s.srUpdate m v).halted = s.halted := rfl
@[simp] theorem srUpdate_standby (m v : Long) : (s.srUpdate m v).standby = s.standby := rfl
@[simp] theorem srUpdate_nmiPending (m v : Long) : (s.srUpdate m v).nmiPending = s.nmiPending := rfl
@[simp] theorem srUpdate_eiShadow (m v : Long) : (s.srUpdate m v).eiShadow = s.eiShadow := rfl
@[simp] theorem srUpdate_io (m v : Long) : (s.srUpdate m v).io = s.io := rfl
@[simp] theorem srUpdate_mem (m v : Long) : (s.srUpdate m v).mem = s.mem := rfl
@[simp] theorem srUpdate_inputs (m v : Long) : (s.srUpdate m v).inputs = s.inputs := rfl
@[simp] theorem srUpdate_portIn (m v : Long) : (s.srUpdate m v).portIn = s.portIn := rfl
@[simp] theorem srUpdate_busLog (m v : Long) : (s.srUpdate m v).busLog = s.busLog := rfl
@[simp] theorem srUpdate_clock (m v : Long) : (s.srUpdate m v).clock = s.clock := rfl
@[simp] theorem srUpdate_stale (m v : Long) : (s.srUpdate m v).stale = s.stale := rfl
@[simp] theorem srUpdate_written (m v : Long) : (s.srUpdate m v).written = s.written := rfl
@[simp] theorem srUpdate_params (m v : Long) : (s.srUpdate m v).params = s.params := rfl

@[simp] theorem setGpSet_gp (w : Bool) (v : GpSet) : (s.setGpSet w v).gp = s.gp.putIn s.mainBank (s.alt ^^ w) v := rfl
@[simp] theorem setGpSet_af (w : Bool) (v : GpSet) : (s.setGpSet w v).af = s.af := rfl
@[simp] theorem setGpSet_ix (w : Bool) (v : GpSet) : (s.setGpSet w v).ix = s.ix := rfl
@[simp] theorem setGpSet_iy (w : Bool) (v : GpSet) : (s.setGpSet w v).iy = s.iy := rfl
@[simp] theorem setGpSet_pc (w : Bool) (v : GpSet) : (s.setGpSet w v).pc = s.pc := rfl
@[simp] theorem setGpSet_sp (w : Bool) (v : GpSet) : (s.setGpSet w v).sp = s.sp := rfl
@[simp] theorem setGpSet_ireg (w : Bool) (v : GpSet) : (s.setGpSet w v).ireg = s.ireg := rfl
@[simp] theorem setGpSet_r (w : Bool) (v : GpSet) : (s.setGpSet w v).r = s.r := rfl
@[simp] theorem setGpSet_sr (w : Bool) (v : GpSet) : (s.setGpSet w v).sr = s.sr := rfl
@[simp] theorem setGpSet_ief2 (w : Bool) (v : GpSet) : (s.setGpSet w v).ief2 = s.ief2 := rfl
@[simp] theorem setGpSet_ddir (w : Bool) (v : GpSet) : (s.setGpSet w v).ddir = s.ddir := rfl
@[simp] theorem setGpSet_halted (w : Bool) (v : GpSet) : (s.setGpSet w v).halted = s.halted := rfl
@[simp] theorem setGpSet_standby (w : Bool) (v : GpSet) : (s.setGpSet w v).standby = s.standby := rfl
@[simp] theorem setGpSet_nmiPending (w : Bool) (v : GpSet) : (s.setGpSet w v).nmiPending = s.nmiPending := rfl
@[simp] theorem setGpSet_eiShadow (w : Bool) (v : GpSet) : (s.setGpSet w v).eiShadow = s.eiShadow := rfl
@[simp] theorem setGpSet_io (w : Bool) (v : GpSet) : (s.setGpSet w v).io = s.io := rfl
@[simp] theorem setGpSet_mem (w : Bool) (v : GpSet) : (s.setGpSet w v).mem = s.mem := rfl
@[simp] theorem setGpSet_inputs (w : Bool) (v : GpSet) : (s.setGpSet w v).inputs = s.inputs := rfl
@[simp] theorem setGpSet_portIn (w : Bool) (v : GpSet) : (s.setGpSet w v).portIn = s.portIn := rfl
@[simp] theorem setGpSet_busLog (w : Bool) (v : GpSet) : (s.setGpSet w v).busLog = s.busLog := rfl
@[simp] theorem setGpSet_clock (w : Bool) (v : GpSet) : (s.setGpSet w v).clock = s.clock := rfl
@[simp] theorem setGpSet_stale (w : Bool) (v : GpSet) : (s.setGpSet w v).stale = s.stale := rfl
@[simp] theorem setGpSet_written (w : Bool) (v : GpSet) : (s.setGpSet w v).written = s.written := rfl
@[simp] theorem setGpSet_params (w : Bool) (v : GpSet) : (s.setGpSet w v).params = s.params := rfl

@[simp] theorem setAfSet_gp (w : Bool) (v : AfSet) : (s.setAfSet w v).gp = s.gp := rfl
@[simp] theorem setAfSet_af (w : Bool) (v : AfSet) : (s.setAfSet w v).af = s.af.putIn s.mainBank (s.afp ^^ w) v := rfl
@[simp] theorem setAfSet_ix (w : Bool) (v : AfSet) : (s.setAfSet w v).ix = s.ix := rfl
@[simp] theorem setAfSet_iy (w : Bool) (v : AfSet) : (s.setAfSet w v).iy = s.iy := rfl
@[simp] theorem setAfSet_pc (w : Bool) (v : AfSet) : (s.setAfSet w v).pc = s.pc := rfl
@[simp] theorem setAfSet_sp (w : Bool) (v : AfSet) : (s.setAfSet w v).sp = s.sp := rfl
@[simp] theorem setAfSet_ireg (w : Bool) (v : AfSet) : (s.setAfSet w v).ireg = s.ireg := rfl
@[simp] theorem setAfSet_r (w : Bool) (v : AfSet) : (s.setAfSet w v).r = s.r := rfl
@[simp] theorem setAfSet_sr (w : Bool) (v : AfSet) : (s.setAfSet w v).sr = s.sr := rfl
@[simp] theorem setAfSet_ief2 (w : Bool) (v : AfSet) : (s.setAfSet w v).ief2 = s.ief2 := rfl
@[simp] theorem setAfSet_ddir (w : Bool) (v : AfSet) : (s.setAfSet w v).ddir = s.ddir := rfl
@[simp] theorem setAfSet_halted (w : Bool) (v : AfSet) : (s.setAfSet w v).halted = s.halted := rfl
@[simp] theorem setAfSet_standby (w : Bool) (v : AfSet) : (s.setAfSet w v).standby = s.standby := rfl
@[simp] theorem setAfSet_nmiPending (w : Bool) (v : AfSet) : (s.setAfSet w v).nmiPending = s.nmiPending := rfl
@[simp] theorem setAfSet_eiShadow (w : Bool) (v : AfSet) : (s.setAfSet w v).eiShadow = s.eiShadow := rfl
@[simp] theorem setAfSet_io (w : Bool) (v : AfSet) : (s.setAfSet w v).io = s.io := rfl
@[simp] theorem setAfSet_mem (w : Bool) (v : AfSet) : (s.setAfSet w v).mem = s.mem := rfl
@[simp] theorem setAfSet_inputs (w : Bool) (v : AfSet) : (s.setAfSet w v).inputs = s.inputs := rfl
@[simp] theorem setAfSet_portIn (w : Bool) (v : AfSet) : (s.setAfSet w v).portIn = s.portIn := rfl
@[simp] theorem setAfSet_busLog (w : Bool) (v : AfSet) : (s.setAfSet w v).busLog = s.busLog := rfl
@[simp] theorem setAfSet_clock (w : Bool) (v : AfSet) : (s.setAfSet w v).clock = s.clock := rfl
@[simp] theorem setAfSet_stale (w : Bool) (v : AfSet) : (s.setAfSet w v).stale = s.stale := rfl
@[simp] theorem setAfSet_written (w : Bool) (v : AfSet) : (s.setAfSet w v).written = s.written := rfl
@[simp] theorem setAfSet_params (w : Bool) (v : AfSet) : (s.setAfSet w v).params = s.params := rfl

@[simp] theorem setIdxIn_gp (w : Bool) (y : Idx) (v : Long) : (s.setIdxIn w y v).gp = s.gp := rfl
@[simp] theorem setIdxIn_af (w : Bool) (y : Idx) (v : Long) : (s.setIdxIn w y v).af = s.af := rfl
@[simp] theorem setIdxIn_ix (w : Bool) (y : Idx) (v : Long) : (s.setIdxIn w y v).ix = if y = .ix then s.ix.putIn s.ixBank (s.ixp ^^ w) v else s.ix := rfl
@[simp] theorem setIdxIn_iy (w : Bool) (y : Idx) (v : Long) : (s.setIdxIn w y v).iy = if y = .iy then s.iy.putIn s.iyBank (s.iyp ^^ w) v else s.iy := rfl
@[simp] theorem setIdxIn_pc (w : Bool) (y : Idx) (v : Long) : (s.setIdxIn w y v).pc = s.pc := rfl
@[simp] theorem setIdxIn_sp (w : Bool) (y : Idx) (v : Long) : (s.setIdxIn w y v).sp = s.sp := rfl
@[simp] theorem setIdxIn_ireg (w : Bool) (y : Idx) (v : Long) : (s.setIdxIn w y v).ireg = s.ireg := rfl
@[simp] theorem setIdxIn_r (w : Bool) (y : Idx) (v : Long) : (s.setIdxIn w y v).r = s.r := rfl
@[simp] theorem setIdxIn_sr (w : Bool) (y : Idx) (v : Long) : (s.setIdxIn w y v).sr = s.sr := rfl
@[simp] theorem setIdxIn_ief2 (w : Bool) (y : Idx) (v : Long) : (s.setIdxIn w y v).ief2 = s.ief2 := rfl
@[simp] theorem setIdxIn_ddir (w : Bool) (y : Idx) (v : Long) : (s.setIdxIn w y v).ddir = s.ddir := rfl
@[simp] theorem setIdxIn_halted (w : Bool) (y : Idx) (v : Long) : (s.setIdxIn w y v).halted = s.halted := rfl
@[simp] theorem setIdxIn_standby (w : Bool) (y : Idx) (v : Long) : (s.setIdxIn w y v).standby = s.standby := rfl
@[simp] theorem setIdxIn_nmiPending (w : Bool) (y : Idx) (v : Long) : (s.setIdxIn w y v).nmiPending = s.nmiPending := rfl
@[simp] theorem setIdxIn_eiShadow (w : Bool) (y : Idx) (v : Long) : (s.setIdxIn w y v).eiShadow = s.eiShadow := rfl
@[simp] theorem setIdxIn_io (w : Bool) (y : Idx) (v : Long) : (s.setIdxIn w y v).io = s.io := rfl
@[simp] theorem setIdxIn_mem (w : Bool) (y : Idx) (v : Long) : (s.setIdxIn w y v).mem = s.mem := rfl
@[simp] theorem setIdxIn_inputs (w : Bool) (y : Idx) (v : Long) : (s.setIdxIn w y v).inputs = s.inputs := rfl
@[simp] theorem setIdxIn_portIn (w : Bool) (y : Idx) (v : Long) : (s.setIdxIn w y v).portIn = s.portIn := rfl
@[simp] theorem setIdxIn_busLog (w : Bool) (y : Idx) (v : Long) : (s.setIdxIn w y v).busLog = s.busLog := rfl
@[simp] theorem setIdxIn_clock (w : Bool) (y : Idx) (v : Long) : (s.setIdxIn w y v).clock = s.clock := rfl
@[simp] theorem setIdxIn_stale (w : Bool) (y : Idx) (v : Long) : (s.setIdxIn w y v).stale = s.stale := rfl
@[simp] theorem setIdxIn_written (w : Bool) (y : Idx) (v : Long) : (s.setIdxIn w y v).written = s.written := rfl
@[simp] theorem setIdxIn_params (w : Bool) (y : Idx) (v : Long) : (s.setIdxIn w y v).params = s.params := rfl

@[simp] theorem setPc_gp (v : Long) : (s.setPc v).gp = s.gp := rfl
@[simp] theorem setPc_af (v : Long) : (s.setPc v).af = s.af := rfl
@[simp] theorem setPc_ix (v : Long) : (s.setPc v).ix = s.ix := rfl
@[simp] theorem setPc_iy (v : Long) : (s.setPc v).iy = s.iy := rfl
@[simp] theorem setPc_pc (v : Long) : (s.setPc v).pc = ringed s.xm v := rfl
@[simp] theorem setPc_sp (v : Long) : (s.setPc v).sp = s.sp := rfl
@[simp] theorem setPc_ireg (v : Long) : (s.setPc v).ireg = s.ireg := rfl
@[simp] theorem setPc_r (v : Long) : (s.setPc v).r = s.r := rfl
@[simp] theorem setPc_sr (v : Long) : (s.setPc v).sr = s.sr := rfl
@[simp] theorem setPc_ief2 (v : Long) : (s.setPc v).ief2 = s.ief2 := rfl
@[simp] theorem setPc_ddir (v : Long) : (s.setPc v).ddir = s.ddir := rfl
@[simp] theorem setPc_halted (v : Long) : (s.setPc v).halted = s.halted := rfl
@[simp] theorem setPc_standby (v : Long) : (s.setPc v).standby = s.standby := rfl
@[simp] theorem setPc_nmiPending (v : Long) : (s.setPc v).nmiPending = s.nmiPending := rfl
@[simp] theorem setPc_eiShadow (v : Long) : (s.setPc v).eiShadow = s.eiShadow := rfl
@[simp] theorem setPc_io (v : Long) : (s.setPc v).io = s.io := rfl
@[simp] theorem setPc_mem (v : Long) : (s.setPc v).mem = s.mem := rfl
@[simp] theorem setPc_inputs (v : Long) : (s.setPc v).inputs = s.inputs := rfl
@[simp] theorem setPc_portIn (v : Long) : (s.setPc v).portIn = s.portIn := rfl
@[simp] theorem setPc_busLog (v : Long) : (s.setPc v).busLog = s.busLog := rfl
@[simp] theorem setPc_clock (v : Long) : (s.setPc v).clock = s.clock := rfl
@[simp] theorem setPc_stale (v : Long) : (s.setPc v).stale = s.stale := rfl
@[simp] theorem setPc_written (v : Long) : (s.setPc v).written = s.written := rfl
@[simp] theorem setPc_params (v : Long) : (s.setPc v).params = s.params := rfl

@[simp] theorem setSp_gp (v : Long) : (s.setSp v).gp = s.gp := rfl
@[simp] theorem setSp_af (v : Long) : (s.setSp v).af = s.af := rfl
@[simp] theorem setSp_ix (v : Long) : (s.setSp v).ix = s.ix := rfl
@[simp] theorem setSp_iy (v : Long) : (s.setSp v).iy = s.iy := rfl
@[simp] theorem setSp_pc (v : Long) : (s.setSp v).pc = s.pc := rfl
@[simp] theorem setSp_sp (v : Long) : (s.setSp v).sp = ringed s.xm v := rfl
@[simp] theorem setSp_ireg (v : Long) : (s.setSp v).ireg = s.ireg := rfl
@[simp] theorem setSp_r (v : Long) : (s.setSp v).r = s.r := rfl
@[simp] theorem setSp_sr (v : Long) : (s.setSp v).sr = s.sr := rfl
@[simp] theorem setSp_ief2 (v : Long) : (s.setSp v).ief2 = s.ief2 := rfl
@[simp] theorem setSp_ddir (v : Long) : (s.setSp v).ddir = s.ddir := rfl
@[simp] theorem setSp_halted (v : Long) : (s.setSp v).halted = s.halted := rfl
@[simp] theorem setSp_standby (v : Long) : (s.setSp v).standby = s.standby := rfl
@[simp] theorem setSp_nmiPending (v : Long) : (s.setSp v).nmiPending = s.nmiPending := rfl
@[simp] theorem setSp_eiShadow (v : Long) : (s.setSp v).eiShadow = s.eiShadow := rfl
@[simp] theorem setSp_io (v : Long) : (s.setSp v).io = s.io := rfl
@[simp] theorem setSp_mem (v : Long) : (s.setSp v).mem = s.mem := rfl
@[simp] theorem setSp_inputs (v : Long) : (s.setSp v).inputs = s.inputs := rfl
@[simp] theorem setSp_portIn (v : Long) : (s.setSp v).portIn = s.portIn := rfl
@[simp] theorem setSp_busLog (v : Long) : (s.setSp v).busLog = s.busLog := rfl
@[simp] theorem setSp_clock (v : Long) : (s.setSp v).clock = s.clock := rfl
@[simp] theorem setSp_stale (v : Long) : (s.setSp v).stale = s.stale := rfl
@[simp] theorem setSp_written (v : Long) : (s.setSp v).written = s.written := rfl
@[simp] theorem setSp_params (v : Long) : (s.setSp v).params = s.params := rfl

@[simp] theorem setIreg_gp (v : Long) : (s.setIreg v).gp = s.gp := rfl
@[simp] theorem setIreg_af (v : Long) : (s.setIreg v).af = s.af := rfl
@[simp] theorem setIreg_ix (v : Long) : (s.setIreg v).ix = s.ix := rfl
@[simp] theorem setIreg_iy (v : Long) : (s.setIreg v).iy = s.iy := rfl
@[simp] theorem setIreg_pc (v : Long) : (s.setIreg v).pc = s.pc := rfl
@[simp] theorem setIreg_sp (v : Long) : (s.setIreg v).sp = s.sp := rfl
@[simp] theorem setIreg_ireg (v : Long) : (s.setIreg v).ireg = v := rfl
@[simp] theorem setIreg_r (v : Long) : (s.setIreg v).r = s.r := rfl
@[simp] theorem setIreg_sr (v : Long) : (s.setIreg v).sr = s.sr := rfl
@[simp] theorem setIreg_ief2 (v : Long) : (s.setIreg v).ief2 = s.ief2 := rfl
@[simp] theorem setIreg_ddir (v : Long) : (s.setIreg v).ddir = s.ddir := rfl
@[simp] theorem setIreg_halted (v : Long) : (s.setIreg v).halted = s.halted := rfl
@[simp] theorem setIreg_standby (v : Long) : (s.setIreg v).standby = s.standby := rfl
@[simp] theorem setIreg_nmiPending (v : Long) : (s.setIreg v).nmiPending = s.nmiPending := rfl
@[simp] theorem setIreg_eiShadow (v : Long) : (s.setIreg v).eiShadow = s.eiShadow := rfl
@[simp] theorem setIreg_io (v : Long) : (s.setIreg v).io = s.io := rfl
@[simp] theorem setIreg_mem (v : Long) : (s.setIreg v).mem = s.mem := rfl
@[simp] theorem setIreg_inputs (v : Long) : (s.setIreg v).inputs = s.inputs := rfl
@[simp] theorem setIreg_portIn (v : Long) : (s.setIreg v).portIn = s.portIn := rfl
@[simp] theorem setIreg_busLog (v : Long) : (s.setIreg v).busLog = s.busLog := rfl
@[simp] theorem setIreg_clock (v : Long) : (s.setIreg v).clock = s.clock := rfl
@[simp] theorem setIreg_stale (v : Long) : (s.setIreg v).stale = s.stale := rfl
@[simp] theorem setIreg_written (v : Long) : (s.setIreg v).written = s.written := rfl
@[simp] theorem setIreg_params (v : Long) : (s.setIreg v).params = s.params := rfl

@[simp] theorem setR_gp (v : Byte) : (s.setR v).gp = s.gp := rfl
@[simp] theorem setR_af (v : Byte) : (s.setR v).af = s.af := rfl
@[simp] theorem setR_ix (v : Byte) : (s.setR v).ix = s.ix := rfl
@[simp] theorem setR_iy (v : Byte) : (s.setR v).iy = s.iy := rfl
@[simp] theorem setR_pc (v : Byte) : (s.setR v).pc = s.pc := rfl
@[simp] theorem setR_sp (v : Byte) : (s.setR v).sp = s.sp := rfl
@[simp] theorem setR_ireg (v : Byte) : (s.setR v).ireg = s.ireg := rfl
@[simp] theorem setR_r (v : Byte) : (s.setR v).r = v := rfl
@[simp] theorem setR_sr (v : Byte) : (s.setR v).sr = s.sr := rfl
@[simp] theorem setR_ief2 (v : Byte) : (s.setR v).ief2 = s.ief2 := rfl
@[simp] theorem setR_ddir (v : Byte) : (s.setR v).ddir = s.ddir := rfl
@[simp] theorem setR_halted (v : Byte) : (s.setR v).halted = s.halted := rfl
@[simp] theorem setR_standby (v : Byte) : (s.setR v).standby = s.standby := rfl
@[simp] theorem setR_nmiPending (v : Byte) : (s.setR v).nmiPending = s.nmiPending := rfl
@[simp] theorem setR_eiShadow (v : Byte) : (s.setR v).eiShadow = s.eiShadow := rfl
@[simp] theorem setR_io (v : Byte) : (s.setR v).io = s.io := rfl
@[simp] theorem setR_mem (v : Byte) : (s.setR v).mem = s.mem := rfl
@[simp] theorem setR_inputs (v : Byte) : (s.setR v).inputs = s.inputs := rfl
@[simp] theorem setR_portIn (v : Byte) : (s.setR v).portIn = s.portIn := rfl
@[simp] theorem setR_busLog (v : Byte) : (s.setR v).busLog = s.busLog := rfl
@[simp] theorem setR_clock (v : Byte) : (s.setR v).clock = s.clock := rfl
@[simp] theorem setR_stale (v : Byte) : (s.setR v).stale = s.stale := rfl
@[simp] theorem setR_written (v : Byte) : (s.setR v).written = s.written := rfl
@[simp] theorem setR_params (v : Byte) : (s.setR v).params = s.params := rfl

@[simp] theorem setIef2_gp (b : Bool) : (s.setIef2 b).gp = s.gp := rfl
@[simp] theorem setIef2_af (b : Bool) : (s.setIef2 b).af = s.af := rfl
@[simp] theorem setIef2_ix (b : Bool) : (s.setIef2 b).ix = s.ix := rfl
@[simp] theorem setIef2_iy (b : Bool) : (s.setIef2 b).iy = s.iy := rfl
@[simp] theorem setIef2_pc (b : Bool) : (s.setIef2 b).pc = s.pc := rfl
@[simp] theorem setIef2_sp (b : Bool) : (s.setIef2 b).sp = s.sp := rfl
@[simp] theorem setIef2_ireg (b : Bool) : (s.setIef2 b).ireg = s.ireg := rfl
@[simp] theorem setIef2_r (b : Bool) : (s.setIef2 b).r = s.r := rfl
@[simp] theorem setIef2_sr (b : Bool) : (s.setIef2 b).sr = s.sr := rfl
@[simp] theorem setIef2_ief2 (b : Bool) : (s.setIef2 b).ief2 = b := rfl
@[simp] theorem setIef2_ddir (b : Bool) : (s.setIef2 b).ddir = s.ddir := rfl
@[simp] theorem setIef2_halted (b : Bool) : (s.setIef2 b).halted = s.halted := rfl
@[simp] theorem setIef2_standby (b : Bool) : (s.setIef2 b).standby = s.standby := rfl
@[simp] theorem setIef2_nmiPending (b : Bool) : (s.setIef2 b).nmiPending = s.nmiPending := rfl
@[simp] theorem setIef2_eiShadow (b : Bool) : (s.setIef2 b).eiShadow = s.eiShadow := rfl
@[simp] theorem setIef2_io (b : Bool) : (s.setIef2 b).io = s.io := rfl
@[simp] theorem setIef2_mem (b : Bool) : (s.setIef2 b).mem = s.mem := rfl
@[simp] theorem setIef2_inputs (b : Bool) : (s.setIef2 b).inputs = s.inputs := rfl
@[simp] theorem setIef2_portIn (b : Bool) : (s.setIef2 b).portIn = s.portIn := rfl
@[simp] theorem setIef2_busLog (b : Bool) : (s.setIef2 b).busLog = s.busLog := rfl
@[simp] theorem setIef2_clock (b : Bool) : (s.setIef2 b).clock = s.clock := rfl
@[simp] theorem setIef2_stale (b : Bool) : (s.setIef2 b).stale = s.stale := rfl
@[simp] theorem setIef2_written (b : Bool) : (s.setIef2 b).written = s.written := rfl
@[simp] theorem setIef2_params (b : Bool) : (s.setIef2 b).params = s.params := rfl

@[simp] theorem setEiShadow_gp (b : Bool) : (s.setEiShadow b).gp = s.gp := rfl
@[simp] theorem setEiShadow_af (b : Bool) : (s.setEiShadow b).af = s.af := rfl
@[simp] theorem setEiShadow_ix (b : Bool) : (s.setEiShadow b).ix = s.ix := rfl
@[simp] theorem setEiShadow_iy (b : Bool) : (s.setEiShadow b).iy = s.iy := rfl
@[simp] theorem setEiShadow_pc (b : Bool) : (s.setEiShadow b).pc = s.pc := rfl
@[simp] theorem setEiShadow_sp (b : Bool) : (s.setEiShadow b).sp = s.sp := rfl
@[simp] theorem setEiShadow_ireg (b : Bool) : (s.setEiShadow b).ireg = s.ireg := rfl
@[simp] theorem setEiShadow_r (b : Bool) : (s.setEiShadow b).r = s.r := rfl
@[simp] theorem setEiShadow_sr (b : Bool) : (s.setEiShadow b).sr = s.sr := rfl
@[simp] theorem setEiShadow_ief2 (b : Bool) : (s.setEiShadow b).ief2 = s.ief2 := rfl
@[simp] theorem setEiShadow_ddir (b : Bool) : (s.setEiShadow b).ddir = s.ddir := rfl
@[simp] theorem setEiShadow_halted (b : Bool) : (s.setEiShadow b).halted = s.halted := rfl
@[simp] theorem setEiShadow_standby (b : Bool) : (s.setEiShadow b).standby = s.standby := rfl
@[simp] theorem setEiShadow_nmiPending (b : Bool) : (s.setEiShadow b).nmiPending = s.nmiPending := rfl
@[simp] theorem setEiShadow_eiShadow (b : Bool) : (s.setEiShadow b).eiShadow = b := rfl
@[simp] theorem setEiShadow_io (b : Bool) : (s.setEiShadow b).io = s.io := rfl
@[simp] theorem setEiShadow_mem (b : Bool) : (s.setEiShadow b).mem = s.mem := rfl
@[simp] theorem setEiShadow_inputs (b : Bool) : (s.setEiShadow b).inputs = s.inputs := rfl
@[simp] theorem setEiShadow_portIn (b : Bool) : (s.setEiShadow b).portIn = s.portIn := rfl
@[simp] theorem setEiShadow_busLog (b : Bool) : (s.setEiShadow b).busLog = s.busLog := rfl
@[simp] theorem setEiShadow_clock (b : Bool) : (s.setEiShadow b).clock = s.clock := rfl
@[simp] theorem setEiShadow_stale (b : Bool) : (s.setEiShadow b).stale = s.stale := rfl
@[simp] theorem setEiShadow_written (b : Bool) : (s.setEiShadow b).written = s.written := rfl
@[simp] theorem setEiShadow_params (b : Bool) : (s.setEiShadow b).params = s.params := rfl

@[simp] theorem setDdir_gp (d : Option Ddir) : (s.setDdir d).gp = s.gp := rfl
@[simp] theorem setDdir_af (d : Option Ddir) : (s.setDdir d).af = s.af := rfl
@[simp] theorem setDdir_ix (d : Option Ddir) : (s.setDdir d).ix = s.ix := rfl
@[simp] theorem setDdir_iy (d : Option Ddir) : (s.setDdir d).iy = s.iy := rfl
@[simp] theorem setDdir_pc (d : Option Ddir) : (s.setDdir d).pc = s.pc := rfl
@[simp] theorem setDdir_sp (d : Option Ddir) : (s.setDdir d).sp = s.sp := rfl
@[simp] theorem setDdir_ireg (d : Option Ddir) : (s.setDdir d).ireg = s.ireg := rfl
@[simp] theorem setDdir_r (d : Option Ddir) : (s.setDdir d).r = s.r := rfl
@[simp] theorem setDdir_sr (d : Option Ddir) : (s.setDdir d).sr = s.sr := rfl
@[simp] theorem setDdir_ief2 (d : Option Ddir) : (s.setDdir d).ief2 = s.ief2 := rfl
@[simp] theorem setDdir_ddir (d : Option Ddir) : (s.setDdir d).ddir = d := rfl
@[simp] theorem setDdir_halted (d : Option Ddir) : (s.setDdir d).halted = s.halted := rfl
@[simp] theorem setDdir_standby (d : Option Ddir) : (s.setDdir d).standby = s.standby := rfl
@[simp] theorem setDdir_nmiPending (d : Option Ddir) : (s.setDdir d).nmiPending = s.nmiPending := rfl
@[simp] theorem setDdir_eiShadow (d : Option Ddir) : (s.setDdir d).eiShadow = s.eiShadow := rfl
@[simp] theorem setDdir_io (d : Option Ddir) : (s.setDdir d).io = s.io := rfl
@[simp] theorem setDdir_mem (d : Option Ddir) : (s.setDdir d).mem = s.mem := rfl
@[simp] theorem setDdir_inputs (d : Option Ddir) : (s.setDdir d).inputs = s.inputs := rfl
@[simp] theorem setDdir_portIn (d : Option Ddir) : (s.setDdir d).portIn = s.portIn := rfl
@[simp] theorem setDdir_busLog (d : Option Ddir) : (s.setDdir d).busLog = s.busLog := rfl
@[simp] theorem setDdir_clock (d : Option Ddir) : (s.setDdir d).clock = s.clock := rfl
@[simp] theorem setDdir_stale (d : Option Ddir) : (s.setDdir d).stale = s.stale := rfl
@[simp] theorem setDdir_written (d : Option Ddir) : (s.setDdir d).written = s.written := rfl
@[simp] theorem setDdir_params (d : Option Ddir) : (s.setDdir d).params = s.params := rfl

@[simp] theorem setHalted_gp (b : Bool) : (s.setHalted b).gp = s.gp := rfl
@[simp] theorem setHalted_af (b : Bool) : (s.setHalted b).af = s.af := rfl
@[simp] theorem setHalted_ix (b : Bool) : (s.setHalted b).ix = s.ix := rfl
@[simp] theorem setHalted_iy (b : Bool) : (s.setHalted b).iy = s.iy := rfl
@[simp] theorem setHalted_pc (b : Bool) : (s.setHalted b).pc = s.pc := rfl
@[simp] theorem setHalted_sp (b : Bool) : (s.setHalted b).sp = s.sp := rfl
@[simp] theorem setHalted_ireg (b : Bool) : (s.setHalted b).ireg = s.ireg := rfl
@[simp] theorem setHalted_r (b : Bool) : (s.setHalted b).r = s.r := rfl
@[simp] theorem setHalted_sr (b : Bool) : (s.setHalted b).sr = s.sr := rfl
@[simp] theorem setHalted_ief2 (b : Bool) : (s.setHalted b).ief2 = s.ief2 := rfl
@[simp] theorem setHalted_ddir (b : Bool) : (s.setHalted b).ddir = s.ddir := rfl
@[simp] theorem setHalted_halted (b : Bool) : (s.setHalted b).halted = b := rfl
@[simp] theorem setHalted_standby (b : Bool) : (s.setHalted b).standby = s.standby := rfl
@[simp] theorem setHalted_nmiPending (b : Bool) : (s.setHalted b).nmiPending = s.nmiPending := rfl
@[simp] theorem setHalted_eiShadow (b : Bool) : (s.setHalted b).eiShadow = s.eiShadow := rfl
@[simp] theorem setHalted_io (b : Bool) : (s.setHalted b).io = s.io := rfl
@[simp] theorem setHalted_mem (b : Bool) : (s.setHalted b).mem = s.mem := rfl
@[simp] theorem setHalted_inputs (b : Bool) : (s.setHalted b).inputs = s.inputs := rfl
@[simp] theorem setHalted_portIn (b : Bool) : (s.setHalted b).portIn = s.portIn := rfl
@[simp] theorem setHalted_busLog (b : Bool) : (s.setHalted b).busLog = s.busLog := rfl
@[simp] theorem setHalted_clock (b : Bool) : (s.setHalted b).clock = s.clock := rfl
@[simp] theorem setHalted_stale (b : Bool) : (s.setHalted b).stale = s.stale := rfl
@[simp] theorem setHalted_written (b : Bool) : (s.setHalted b).written = s.written := rfl
@[simp] theorem setHalted_params (b : Bool) : (s.setHalted b).params = s.params := rfl

@[simp] theorem setStandby_gp (b : Bool) : (s.setStandby b).gp = s.gp := rfl
@[simp] theorem setStandby_af (b : Bool) : (s.setStandby b).af = s.af := rfl
@[simp] theorem setStandby_ix (b : Bool) : (s.setStandby b).ix = s.ix := rfl
@[simp] theorem setStandby_iy (b : Bool) : (s.setStandby b).iy = s.iy := rfl
@[simp] theorem setStandby_pc (b : Bool) : (s.setStandby b).pc = s.pc := rfl
@[simp] theorem setStandby_sp (b : Bool) : (s.setStandby b).sp = s.sp := rfl
@[simp] theorem setStandby_ireg (b : Bool) : (s.setStandby b).ireg = s.ireg := rfl
@[simp] theorem setStandby_r (b : Bool) : (s.setStandby b).r = s.r := rfl
@[simp] theorem setStandby_sr (b : Bool) : (s.setStandby b).sr = s.sr := rfl
@[simp] theorem setStandby_ief2 (b : Bool) : (s.setStandby b).ief2 = s.ief2 := rfl
@[simp] theorem setStandby_ddir (b : Bool) : (s.setStandby b).ddir = s.ddir := rfl
@[simp] theorem setStandby_halted (b : Bool) : (s.setStandby b).halted = s.halted := rfl
@[simp] theorem setStandby_standby (b : Bool) : (s.setStandby b).standby = b := rfl
@[simp] theorem setStandby_nmiPending (b : Bool) : (s.setStandby b).nmiPending = s.nmiPending := rfl
@[simp] theorem setStandby_eiShadow (b : Bool) : (s.setStandby b).eiShadow = s.eiShadow := rfl
@[simp] theorem setStandby_io (b : Bool) : (s.setStandby b).io = s.io := rfl
@[simp] theorem setStandby_mem (b : Bool) : (s.setStandby b).mem = s.mem := rfl
@[simp] theorem setStandby_inputs (b : Bool) : (s.setStandby b).inputs = s.inputs := rfl
@[simp] theorem setStandby_portIn (b : Bool) : (s.setStandby b).portIn = s.portIn := rfl
@[simp] theorem setStandby_busLog (b : Bool) : (s.setStandby b).busLog = s.busLog := rfl
@[simp] theorem setStandby_clock (b : Bool) : (s.setStandby b).clock = s.clock := rfl
@[simp] theorem setStandby_stale (b : Bool) : (s.setStandby b).stale = s.stale := rfl
@[simp] theorem setStandby_written (b : Bool) : (s.setStandby b).written = s.written := rfl
@[simp] theorem setStandby_params (b : Bool) : (s.setStandby b).params = s.params := rfl

@[simp] theorem writeByte_gp (a : Long) (v : Byte) : (s.writeByte a v).gp = s.gp := rfl
@[simp] theorem writeByte_af (a : Long) (v : Byte) : (s.writeByte a v).af = s.af := rfl
@[simp] theorem writeByte_ix (a : Long) (v : Byte) : (s.writeByte a v).ix = s.ix := rfl
@[simp] theorem writeByte_iy (a : Long) (v : Byte) : (s.writeByte a v).iy = s.iy := rfl
@[simp] theorem writeByte_pc (a : Long) (v : Byte) : (s.writeByte a v).pc = s.pc := rfl
@[simp] theorem writeByte_sp (a : Long) (v : Byte) : (s.writeByte a v).sp = s.sp := rfl
@[simp] theorem writeByte_ireg (a : Long) (v : Byte) : (s.writeByte a v).ireg = s.ireg := rfl
@[simp] theorem writeByte_r (a : Long) (v : Byte) : (s.writeByte a v).r = s.r := rfl
@[simp] theorem writeByte_sr (a : Long) (v : Byte) : (s.writeByte a v).sr = s.sr := rfl
@[simp] theorem writeByte_ief2 (a : Long) (v : Byte) : (s.writeByte a v).ief2 = s.ief2 := rfl
@[simp] theorem writeByte_ddir (a : Long) (v : Byte) : (s.writeByte a v).ddir = s.ddir := rfl
@[simp] theorem writeByte_halted (a : Long) (v : Byte) : (s.writeByte a v).halted = s.halted := rfl
@[simp] theorem writeByte_standby (a : Long) (v : Byte) : (s.writeByte a v).standby = s.standby := rfl
@[simp] theorem writeByte_nmiPending (a : Long) (v : Byte) : (s.writeByte a v).nmiPending = s.nmiPending := rfl
@[simp] theorem writeByte_eiShadow (a : Long) (v : Byte) : (s.writeByte a v).eiShadow = s.eiShadow := rfl
@[simp] theorem writeByte_io (a : Long) (v : Byte) : (s.writeByte a v).io = s.io := rfl
@[simp] theorem writeByte_mem (a : Long) (v : Byte) : (s.writeByte a v).mem = if s.kind a = .ram then s.mem.write a.toNat v else s.mem := rfl
@[simp] theorem writeByte_inputs (a : Long) (v : Byte) : (s.writeByte a v).inputs = s.inputs := rfl
@[simp] theorem writeByte_portIn (a : Long) (v : Byte) : (s.writeByte a v).portIn = s.portIn := rfl
@[simp] theorem writeByte_busLog (a : Long) (v : Byte) : (s.writeByte a v).busLog = if s.kind a = .device then .deviceWrite a v :: s.busLog else s.busLog := rfl
@[simp] theorem writeByte_clock (a : Long) (v : Byte) : (s.writeByte a v).clock = s.clock := rfl
@[simp] theorem writeByte_stale (a : Long) (v : Byte) : (s.writeByte a v).stale = s.stale := rfl
@[simp] theorem writeByte_written (a : Long) (v : Byte) : (s.writeByte a v).written = a.toNat :: s.written := rfl
@[simp] theorem writeByte_params (a : Long) (v : Byte) : (s.writeByte a v).params = s.params := rfl

@[simp] theorem afterPortRead_gp (w : Bool) (a : Long) : (s.afterPortRead w a).gp = s.gp := rfl
@[simp] theorem afterPortRead_af (w : Bool) (a : Long) : (s.afterPortRead w a).af = s.af := rfl
@[simp] theorem afterPortRead_ix (w : Bool) (a : Long) : (s.afterPortRead w a).ix = s.ix := rfl
@[simp] theorem afterPortRead_iy (w : Bool) (a : Long) : (s.afterPortRead w a).iy = s.iy := rfl
@[simp] theorem afterPortRead_pc (w : Bool) (a : Long) : (s.afterPortRead w a).pc = s.pc := rfl
@[simp] theorem afterPortRead_sp (w : Bool) (a : Long) : (s.afterPortRead w a).sp = s.sp := rfl
@[simp] theorem afterPortRead_ireg (w : Bool) (a : Long) : (s.afterPortRead w a).ireg = s.ireg := rfl
@[simp] theorem afterPortRead_r (w : Bool) (a : Long) : (s.afterPortRead w a).r = s.r := rfl
@[simp] theorem afterPortRead_sr (w : Bool) (a : Long) : (s.afterPortRead w a).sr = s.sr := rfl
@[simp] theorem afterPortRead_ief2 (w : Bool) (a : Long) : (s.afterPortRead w a).ief2 = s.ief2 := rfl
@[simp] theorem afterPortRead_ddir (w : Bool) (a : Long) : (s.afterPortRead w a).ddir = s.ddir := rfl
@[simp] theorem afterPortRead_halted (w : Bool) (a : Long) : (s.afterPortRead w a).halted = s.halted := rfl
@[simp] theorem afterPortRead_standby (w : Bool) (a : Long) : (s.afterPortRead w a).standby = s.standby := rfl
@[simp] theorem afterPortRead_nmiPending (w : Bool) (a : Long) : (s.afterPortRead w a).nmiPending = s.nmiPending := rfl
@[simp] theorem afterPortRead_eiShadow (w : Bool) (a : Long) : (s.afterPortRead w a).eiShadow = s.eiShadow := rfl
@[simp] theorem afterPortRead_io (w : Bool) (a : Long) : (s.afterPortRead w a).io = s.io := rfl
@[simp] theorem afterPortRead_mem (w : Bool) (a : Long) : (s.afterPortRead w a).mem = s.mem := rfl
@[simp] theorem afterPortRead_inputs (w : Bool) (a : Long) : (s.afterPortRead w a).inputs = s.inputs := rfl
@[simp] theorem afterPortRead_portIn (w : Bool) (a : Long) : (s.afterPortRead w a).portIn = s.portIn.tail := rfl
@[simp] theorem afterPortRead_busLog (w : Bool) (a : Long) : (s.afterPortRead w a).busLog = .portRead w a (s.portAnswer w a) :: s.busLog := rfl
@[simp] theorem afterPortRead_clock (w : Bool) (a : Long) : (s.afterPortRead w a).clock = s.clock := rfl
@[simp] theorem afterPortRead_stale (w : Bool) (a : Long) : (s.afterPortRead w a).stale = s.stale := rfl
@[simp] theorem afterPortRead_written (w : Bool) (a : Long) : (s.afterPortRead w a).written = s.written := rfl
@[simp] theorem afterPortRead_params (w : Bool) (a : Long) : (s.afterPortRead w a).params = s.params := rfl

@[simp] theorem portWrite_gp (w : Bool) (a : Long) (v : Word) : (s.portWrite w a v).gp = s.gp := rfl
@[simp] theorem portWrite_af (w : Bool) (a : Long) (v : Word) : (s.portWrite w a v).af = s.af := rfl
@[simp] theorem portWrite_ix (w : Bool) (a : Long) (v : Word) : (s.portWrite w a v).ix = s.ix := rfl
@[simp] theorem portWrite_iy (w : Bool) (a : Long) (v : Word) : (s.portWrite w a v).iy = s.iy := rfl
@[simp] theorem portWrite_pc (w : Bool) (a : Long) (v : Word) : (s.portWrite w a v).pc = s.pc := rfl
@[simp] theorem portWrite_sp (w : Bool) (a : Long) (v : Word) : (s.portWrite w a v).sp = s.sp := rfl
@[simp] theorem portWrite_ireg (w : Bool) (a : Long) (v : Word) : (s.portWrite w a v).ireg = s.ireg := rfl
@[simp] theorem portWrite_r (w : Bool) (a : Long) (v : Word) : (s.portWrite w a v).r = s.r := rfl
@[simp] theorem portWrite_sr (w : Bool) (a : Long) (v : Word) : (s.portWrite w a v).sr = s.sr := rfl
@[simp] theorem portWrite_ief2 (w : Bool) (a : Long) (v : Word) : (s.portWrite w a v).ief2 = s.ief2 := rfl
@[simp] theorem portWrite_ddir (w : Bool) (a : Long) (v : Word) : (s.portWrite w a v).ddir = s.ddir := rfl
@[simp] theorem portWrite_halted (w : Bool) (a : Long) (v : Word) : (s.portWrite w a v).halted = s.halted := rfl
@[simp] theorem portWrite_standby (w : Bool) (a : Long) (v : Word) : (s.portWrite w a v).standby = s.standby := rfl
@[simp] theorem portWrite_nmiPending (w : Bool) (a : Long) (v : Word) : (s.portWrite w a v).nmiPending = s.nmiPending := rfl
@[simp] theorem portWrite_eiShadow (w : Bool) (a : Long) (v : Word) : (s.portWrite w a v).eiShadow = s.eiShadow := rfl
@[simp] theorem portWrite_io (w : Bool) (a : Long) (v : Word) : (s.portWrite w a v).io = s.io := rfl
@[simp] theorem portWrite_mem (w : Bool) (a : Long) (v : Word) : (s.portWrite w a v).mem = s.mem := rfl
@[simp] theorem portWrite_inputs (w : Bool) (a : Long) (v : Word) : (s.portWrite w a v).inputs = s.inputs := rfl
@[simp] theorem portWrite_portIn (w : Bool) (a : Long) (v : Word) : (s.portWrite w a v).portIn = s.portIn := rfl
@[simp] theorem portWrite_busLog (w : Bool) (a : Long) (v : Word) : (s.portWrite w a v).busLog = .portWrite w a v :: s.busLog := rfl
@[simp] theorem portWrite_clock (w : Bool) (a : Long) (v : Word) : (s.portWrite w a v).clock = s.clock := rfl
@[simp] theorem portWrite_stale (w : Bool) (a : Long) (v : Word) : (s.portWrite w a v).stale = s.stale := rfl
@[simp] theorem portWrite_written (w : Bool) (a : Long) (v : Word) : (s.portWrite w a v).written = s.written := rfl
@[simp] theorem portWrite_params (w : Bool) (a : Long) (v : Word) : (s.portWrite w a v).params = s.params := rfl

@[simp] theorem ioWrite_gp (a v : Byte) : (s.ioWrite a v).gp = s.gp := rfl
@[simp] theorem ioWrite_af (a v : Byte) : (s.ioWrite a v).af = s.af := rfl
@[simp] theorem ioWrite_ix (a v : Byte) : (s.ioWrite a v).ix = s.ix := rfl
@[simp] theorem ioWrite_iy (a v : Byte) : (s.ioWrite a v).iy = s.iy := rfl
@[simp] theorem ioWrite_pc (a v : Byte) : (s.ioWrite a v).pc = s.pc := rfl
@[simp] theorem ioWrite_sp (a v : Byte) : (s.ioWrite a v).sp = s.sp := rfl
@[simp] theorem ioWrite_ireg (a v : Byte) : (s.ioWrite a v).ireg = s.ireg := rfl
@[simp] theorem ioWrite_r (a v : Byte) : (s.ioWrite a v).r = s.r := rfl
@[simp] theorem ioWrite_sr (a v : Byte) : (s.ioWrite a v).sr = s.sr := rfl
@[simp] theorem ioWrite_ief2 (a v : Byte) : (s.ioWrite a v).ief2 = s.ief2 := rfl
@[simp] theorem ioWrite_ddir (a v : Byte) : (s.ioWrite a v).ddir = s.ddir := rfl
@[simp] theorem ioWrite_halted (a v : Byte) : (s.ioWrite a v).halted = s.halted := rfl
@[simp] theorem ioWrite_standby (a v : Byte) : (s.ioWrite a v).standby = s.standby := rfl
@[simp] theorem ioWrite_nmiPending (a v : Byte) : (s.ioWrite a v).nmiPending = s.nmiPending := rfl
@[simp] theorem ioWrite_eiShadow (a v : Byte) : (s.ioWrite a v).eiShadow = s.eiShadow := rfl
@[simp] theorem ioWrite_io (a v : Byte) : (s.ioWrite a v).io = s.io.put a v := rfl
@[simp] theorem ioWrite_mem (a v : Byte) : (s.ioWrite a v).mem = s.mem := rfl
@[simp] theorem ioWrite_inputs (a v : Byte) : (s.ioWrite a v).inputs = s.inputs := rfl
@[simp] theorem ioWrite_portIn (a v : Byte) : (s.ioWrite a v).portIn = s.portIn := rfl
@[simp] theorem ioWrite_busLog (a v : Byte) : (s.ioWrite a v).busLog = s.busLog := rfl
@[simp] theorem ioWrite_clock (a v : Byte) : (s.ioWrite a v).clock = s.clock := rfl
@[simp] theorem ioWrite_stale (a v : Byte) : (s.ioWrite a v).stale = s.stale := rfl
@[simp] theorem ioWrite_written (a v : Byte) : (s.ioWrite a v).written = s.written := rfl
@[simp] theorem ioWrite_params (a v : Byte) : (s.ioWrite a v).params = s.params := rfl

@[simp] theorem tick_gp : s.tick.gp = s.gp := rfl
@[simp] theorem tick_af : s.tick.af = s.af := rfl
@[simp] theorem tick_ix : s.tick.ix = s.ix := rfl
@[simp] theorem tick_iy : s.tick.iy = s.iy := rfl
@[simp] theorem tick_pc : s.tick.pc = s.pc := rfl
@[simp] theorem tick_sp : s.tick.sp = s.sp := rfl
@[simp] theorem tick_ireg : s.tick.ireg = s.ireg := rfl
@[simp] theorem tick_r : s.tick.r = s.r := rfl
@[simp] theorem tick_sr : s.tick.sr = s.sr := rfl
@[simp] theorem tick_ief2 : s.tick.ief2 = s.ief2 := rfl
@[simp] theorem tick_ddir : s.tick.ddir = s.ddir := rfl
@[simp] theorem tick_halted : s.tick.halted = s.halted := rfl
@[simp] theorem tick_standby : s.tick.standby = s.standby := rfl
@[simp] theorem tick_nmiPending : s.tick.nmiPending = s.nmiPending := rfl
@[simp] theorem tick_eiShadow : s.tick.eiShadow = s.eiShadow := rfl
@[simp] theorem tick_io : s.tick.io = s.io := rfl
@[simp] theorem tick_mem : s.tick.mem = s.mem := rfl
@[simp] theorem tick_inputs : s.tick.inputs = s.inputs := rfl
@[simp] theorem tick_portIn : s.tick.portIn = s.portIn := rfl
@[simp] theorem tick_busLog : s.tick.busLog = s.busLog := rfl
@[simp] theorem tick_clock : s.tick.clock = s.clock + 1 := rfl
@[simp] theorem tick_stale : s.tick.stale = s.stale := rfl
@[simp] theorem tick_written : s.tick.written = s.written := rfl
@[simp] theorem tick_params : s.tick.params = s.params := rfl

@[simp] theorem sampled_gp : s.sampled.gp = s.gp := rfl
@[simp] theorem sampled_af : s.sampled.af = s.af := rfl
@[simp] theorem sampled_ix : s.sampled.ix = s.ix := rfl
@[simp] theorem sampled_iy : s.sampled.iy = s.iy := rfl
@[simp] theorem sampled_pc : s.sampled.pc = s.pc := rfl
@[simp] theorem sampled_sp : s.sampled.sp = s.sp := rfl
@[simp] theorem sampled_ireg : s.sampled.ireg = s.ireg := rfl
@[simp] theorem sampled_r : s.sampled.r = s.r := rfl
@[simp] theorem sampled_sr : s.sampled.sr = s.sr := rfl
@[simp] theorem sampled_ief2 : s.sampled.ief2 = s.ief2 := rfl
@[simp] theorem sampled_ddir : s.sampled.ddir = s.ddir := rfl
@[simp] theorem sampled_halted : s.sampled.halted = s.halted := rfl
@[simp] theorem sampled_standby : s.sampled.standby = s.standby := rfl
@[simp] theorem sampled_nmiPending : s.sampled.nmiPending = (s.nmiPending || s.now.nmi) := rfl
@[simp] theorem sampled_eiShadow : s.sampled.eiShadow = s.eiShadow := rfl
@[simp] theorem sampled_io : s.sampled.io = s.io := rfl
@[simp] theorem sampled_mem : s.sampled.mem = s.mem := rfl
@[simp] theorem sampled_inputs : s.sampled.inputs = s.inputs.tail := rfl
@[simp] theorem sampled_portIn : s.sampled.portIn = s.portIn := rfl
@[simp] theorem sampled_busLog : s.sampled.busLog = s.busLog := rfl
@[simp] theorem sampled_clock : s.sampled.clock = s.clock := rfl
@[simp] theorem sampled_stale : s.sampled.stale = s.stale := rfl
@[simp] theorem sampled_written : s.sampled.written = [] := rfl
@[simp] theorem sampled_params : s.sampled.params = s.params := rfl

@[simp] theorem setPair_af (p : Pair) (v : Long) : (s.setPair p v).af = s.af := rfl
@[simp] theorem setPair_ix (p : Pair) (v : Long) : (s.setPair p v).ix = s.ix := rfl
@[simp] theorem setPair_iy (p : Pair) (v : Long) : (s.setPair p v).iy = s.iy := rfl
@[simp] theorem setPair_pc (p : Pair) (v : Long) : (s.setPair p v).pc = s.pc := rfl
@[simp] theorem setPair_sp (p : Pair) (v : Long) : (s.setPair p v).sp = s.sp := rfl
@[simp] theorem setPair_ireg (p : Pair) (v : Long) : (s.setPair p v).ireg = s.ireg := rfl
@[simp] theorem setPair_r (p : Pair) (v : Long) : (s.setPair p v).r = s.r := rfl
@[simp] theorem setPair_sr (p : Pair) (v : Long) : (s.setPair p v).sr = s.sr := rfl
@[simp] theorem setPair_ief2 (p : Pair) (v : Long) : (s.setPair p v).ief2 = s.ief2 := rfl
@[simp] theorem setPair_ddir (p : Pair) (v : Long) : (s.setPair p v).ddir = s.ddir := rfl
@[simp] theorem setPair_halted (p : Pair) (v : Long) : (s.setPair p v).halted = s.halted := rfl
@[simp] theorem setPair_standby (p : Pair) (v : Long) : (s.setPair p v).standby = s.standby := rfl
@[simp] theorem setPair_nmiPending (p : Pair) (v : Long) : (s.setPair p v).nmiPending = s.nmiPending := rfl
@[simp] theorem setPair_eiShadow (p : Pair) (v : Long) : (s.setPair p v).eiShadow = s.eiShadow := rfl
@[simp] theorem setPair_io (p : Pair) (v : Long) : (s.setPair p v).io = s.io := rfl
@[simp] theorem setPair_mem (p : Pair) (v : Long) : (s.setPair p v).mem = s.mem := rfl
@[simp] theorem setPair_inputs (p : Pair) (v : Long) : (s.setPair p v).inputs = s.inputs := rfl
@[simp] theorem setPair_portIn (p : Pair) (v : Long) : (s.setPair p v).portIn = s.portIn := rfl
@[simp] theorem setPair_busLog (p : Pair) (v : Long) : (s.setPair p v).busLog = s.busLog := rfl
@[simp] theorem setPair_clock (p : Pair) (v : Long) : (s.setPair p v).clock = s.clock := rfl
@[simp] theorem setPair_stale (p : Pair) (v : Long) : (s.setPair p v).stale = s.stale := rfl
@[simp] theorem setPair_written (p : Pair) (v : Long) : (s.setPair p v).written = s.written := rfl
@[simp] theorem setPair_params (p : Pair) (v : Long) : (s.setPair p v).params = s.params := rfl

@[simp] theorem setPairAlt_af (p : Pair) (v : Long) : (s.setPairAlt p v).af = s.af := rfl
@[simp] theorem setPairAlt_ix (p : Pair) (v : Long) : (s.setPairAlt p v).ix = s.ix := rfl
@[simp] theorem setPairAlt_iy (p : Pair) (v : Long) : (s.setPairAlt p v).iy = s.iy := rfl
@[simp] theorem setPairAlt_pc (p : Pair) (v : Long) : (s.setPairAlt p v).pc = s.pc := rfl
@[simp] theorem setPairAlt_sp (p : Pair) (v : Long) : (s.setPairAlt p v).sp = s.sp := rfl
@[simp] theorem setPairAlt_ireg (p : Pair) (v : Long) : (s.setPairAlt p v).ireg = s.ireg := rfl
@[simp] theorem setPairAlt_r (p : Pair) (v : Long) : (s.setPairAlt p v).r = s.r := rfl
@[simp] theorem setPairAlt_sr (p : Pair) (v : Long) : (s.setPairAlt p v).sr = s.sr := rfl
@[simp] theorem setPairAlt_ief2 (p : Pair) (v : Long) : (s.setPairAlt p v).ief2 = s.ief2 := rfl
@[simp] theorem setPairAlt_ddir (p : Pair) (v : Long) : (s.setPairAlt p v).ddir = s.ddir := rfl
@[simp] theorem setPairAlt_halted (p : Pair) (v : Long) : (s.setPairAlt p v).halted = s.halted := rfl
@[simp] theorem setPairAlt_standby (p : Pair) (v : Long) : (s.setPairAlt p v).standby = s.standby := rfl
@[simp] theorem setPairAlt_nmiPending (p : Pair) (v : Long) : (s.setPairAlt p v).nmiPending = s.nmiPending := rfl
@[simp] theorem setPairAlt_eiShadow (p : Pair) (v : Long) : (s.setPairAlt p v).eiShadow = s.eiShadow := rfl
@[simp] theorem setPairAlt_io (p : Pair) (v : Long) : (s.setPairAlt p v).io = s.io := rfl
@[simp] theorem setPairAlt_mem (p : Pair) (v : Long) : (s.setPairAlt p v).mem = s.mem := rfl
@[simp] theorem setPairAlt_inputs (p : Pair) (v : Long) : (s.setPairAlt p v).inputs = s.inputs := rfl
@[simp] theorem setPairAlt_portIn (p : Pair) (v : Long) : (s.setPairAlt p v).portIn = s.portIn := rfl
@[simp] theorem setPairAlt_busLog (p : Pair) (v : Long) : (s.setPairAlt p v).busLog = s.busLog := rfl
@[simp] theorem setPairAlt_clock (p : Pair) (v : Long) : (s.setPairAlt p v).clock = s.clock := rfl
@[simp] theorem setPairAlt_stale (p : Pair) (v : Long) : (s.setPairAlt p v).stale = s.stale := rfl
@[simp] theorem setPairAlt_written (p : Pair) (v : Long) : (s.setPairAlt p v).written = s.written := rfl
@[simp] theorem setPairAlt_params (p : Pair) (v : Long) : (s.setPairAlt p v).params = s.params := rfl

@[simp] theorem setA_gp (v : Byte) : (s.setA v).gp = s.gp := rfl
@[simp] theorem setA_ix (v : Byte) : (s.setA v).ix = s.ix := rfl
@[simp] theorem setA_iy (v : Byte) : (s.setA v).iy = s.iy := rfl
@[simp] theorem setA_pc (v : Byte) : (s.setA v).pc = s.pc := rfl
@[simp] theorem setA_sp (v : Byte) : (s.setA v).sp = s.sp := rfl
@[simp] theorem setA_ireg (v : Byte) : (s.setA v).ireg = s.ireg := rfl
@[simp] theorem setA_r (v : Byte) : (s.setA v).r = s.r := rfl
@[simp] theorem setA_sr (v : Byte) : (s.setA v).sr = s.sr := rfl
@[simp] theorem setA_ief2 (v : Byte) : (s.setA v).ief2 = s.ief2 := rfl
@[simp] theorem setA_ddir (v : Byte) : (s.setA v).ddir = s.ddir := rfl
@[simp] theorem setA_halted (v : Byte) : (s.setA v).halted = s.halted := rfl
@[simp] theorem setA_standby (v : Byte) : (s.setA v).standby = s.standby := rfl
@[simp] theorem setA_nmiPending (v : Byte) : (s.setA v).nmiPending = s.nmiPending := rfl
@[simp] theorem setA_eiShadow (v : Byte) : (s.setA v).eiShadow = s.eiShadow := rfl
@[simp] theorem setA_io (v : Byte) : (s.setA v).io = s.io := rfl
@[simp] theorem setA_mem (v : Byte) : (s.setA v).mem = s.mem := rfl
@[simp] theorem setA_inputs (v : Byte) : (s.setA v).inputs = s.inputs := rfl
@[simp] theorem setA_portIn (v : Byte) : (s.setA v).portIn = s.portIn := rfl
@[simp] theorem setA_busLog (v : Byte) : (s.setA v).busLog = s.busLog := rfl
@[simp] theorem setA_clock (v : Byte) : (s.setA v).clock = s.clock := rfl
@[simp] theorem setA_stale (v : Byte) : (s.setA v).stale = s.stale := rfl
@[simp] theorem setA_written (v : Byte) : (s.setA v).written = s.written := rfl
@[simp] theorem setA_params (v : Byte) : (s.setA v).params = s.params := rfl

@[simp] theorem setF_gp (v : Byte) : (s.setF v).gp = s.gp := rfl
@[simp] theorem setF_ix (v : Byte) : (s.setF v).ix = s.ix := rfl
@[simp] theorem setF_iy (v : Byte) : (s.setF v).iy = s.iy := rfl
@[simp] theorem setF_pc (v : Byte) : (s.setF v).pc = s.pc := rfl
@[simp] theorem setF_sp (v : Byte) : (s.setF v).sp = s.sp := rfl
@[simp] theorem setF_ireg (v : Byte) : (s.setF v).ireg = s.ireg := rfl
@[simp] theorem setF_r (v : Byte) : (s.setF v).r = s.r := rfl
@[simp] theorem setF_sr (v : Byte) : (s.setF v).sr = s.sr := rfl
@[simp] theorem setF_ief2 (v : Byte) : (s.setF v).ief2 = s.ief2 := rfl
@[simp] theorem setF_ddir (v : Byte) : (s.setF v).ddir = s.ddir := rfl
@[simp] theorem setF_halted (v : Byte) : (s.setF v).halted = s.halted := rfl
@[simp] theorem setF_standby (v : Byte) : (s.setF v).standby = s.standby := rfl
@[simp] theorem setF_nmiPending (v : Byte) : (s.setF v).nmiPending = s.nmiPending := rfl
@[simp] theorem setF_eiShadow (v : Byte) : (s.setF v).eiShadow = s.eiShadow := rfl
@[simp] theorem setF_io (v : Byte) : (s.setF v).io = s.io := rfl
@[simp] theorem setF_mem (v : Byte) : (s.setF v).mem = s.mem := rfl
@[simp] theorem setF_inputs (v : Byte) : (s.setF v).inputs = s.inputs := rfl
@[simp] theorem setF_portIn (v : Byte) : (s.setF v).portIn = s.portIn := rfl
@[simp] theorem setF_busLog (v : Byte) : (s.setF v).busLog = s.busLog := rfl
@[simp] theorem setF_clock (v : Byte) : (s.setF v).clock = s.clock := rfl
@[simp] theorem setF_stale (v : Byte) : (s.setF v).stale = s.stale := rfl
@[simp] theorem setF_written (v : Byte) : (s.setF v).written = s.written := rfl
@[simp] theorem setF_params (v : Byte) : (s.setF v).params = s.params := rfl

@[simp] theorem setAAlt_gp (v : Byte) : (s.setAAlt v).gp = s.gp := rfl
@[simp] theorem setAAlt_ix (v : Byte) : (s.setAAlt v).ix = s.ix := rfl
@[simp] theorem setAAlt_iy (v : Byte) : (s.setAAlt v).iy = s.iy := rfl
@[simp] theorem setAAlt_pc (v : Byte) : (s.setAAlt v).pc = s.pc := rfl
@[simp] theorem setAAlt_sp (v : Byte) : (s.setAAlt v).sp = s.sp := rfl
@[simp] theorem setAAlt_ireg (v : Byte) : (s.setAAlt v).ireg = s.ireg := rfl
@[simp] theorem setAAlt_r (v : Byte) : (s.setAAlt v).r = s.r := rfl
@[simp] theorem setAAlt_sr (v : Byte) : (s.setAAlt v).sr = s.sr := rfl
@[simp] theorem setAAlt_ief2 (v : Byte) : (s.setAAlt v).ief2 = s.ief2 := rfl
@[simp] theorem setAAlt_ddir (v : Byte) : (s.setAAlt v).ddir = s.ddir := rfl
@[simp] theorem setAAlt_halted (v : Byte) : (s.setAAlt v).halted = s.halted := rfl
@[simp] theorem setAAlt_standby (v : Byte) : (s.setAAlt v).standby = s.standby := rfl
@[simp] theorem setAAlt_nmiPending (v : Byte) : (s.setAAlt v).nmiPending = s.nmiPending := rfl
@[simp] theorem setAAlt_eiShadow (v : Byte) : (s.setAAlt v).eiShadow = s.eiShadow := rfl
@[simp] theorem setAAlt_io (v : Byte) : (s.setAAlt v).io = s.io := rfl
@[simp] theorem setAAlt_mem (v : Byte) : (s.setAAlt v).mem = s.mem := rfl
@[simp] theorem setAAlt_inputs (v : Byte) : (s.setAAlt v).inputs = s.inputs := rfl
@[simp] theorem setAAlt_portIn (v : Byte) : (s.setAAlt v).portIn = s.portIn := rfl
@[simp] theorem setAAlt_busLog (v : Byte) : (s.setAAlt v).busLog = s.busLog := rfl
@[simp] theorem setAAlt_clock (v : Byte) : (s.setAAlt v).clock = s.clock := rfl
@[simp] theorem setAAlt_stale (v : Byte) : (s.setAAlt v).stale = s.stale := rfl
@[simp] theorem setAAlt_written (v : Byte) : (s.setAAlt v).written = s.written := rfl
@[simp] theorem setAAlt_params (v : Byte) : (s.setAAlt v).params = s.params := rfl

@[simp] theorem setIdx_gp (y : Idx) (v : Long) : (s.setIdx y v).gp = s.gp := rfl
@[simp] theorem setIdx_af (y : Idx) (v : Long) : (s.setIdx y v).af = s.af := rfl
@[simp] theorem setIdx_pc (y : Idx) (v : Long) : (s.setIdx y v).pc = s.pc := rfl
@[simp] theorem setIdx_sp (y : Idx) (v : Long) : (s.setIdx y v).sp = s.sp := rfl
@[simp] theorem setIdx_ireg (y : Idx) (v : Long) : (s.setIdx y v).ireg = s.ireg := rfl
@[simp] theorem setIdx_r (y : Idx) (v : Long) : (s.setIdx y v).r = s.r := rfl
@[simp] theorem setIdx_sr (y : Idx) (v : Long) : (s.setIdx y v).sr = s.sr := rfl
@[simp] theorem setIdx_ief2 (y : Idx) (v : Long) : (s.setIdx y v).ief2 = s.ief2 := rfl
@[simp] theorem setIdx_ddir (y : Idx) (v : Long) : (s.setIdx y v).ddir = s.ddir := rfl
@[simp] theorem setIdx_halted (y : Idx) (v : Long) : (s.setIdx y v).halted = s.halted := rfl
@[simp] theorem setIdx_standby (y : Idx) (v : Long) : (s.setIdx y v).standby = s.standby := rfl
@[simp] theorem setIdx_nmiPending (y : Idx) (v : Long) : (s.setIdx y v).nmiPending = s.nmiPending := rfl
@[simp] theorem setIdx_eiShadow (y : Idx) (v : Long) : (s.setIdx y v).eiShadow = s.eiShadow := rfl
@[simp] theorem setIdx_io (y : Idx) (v : Long) : (s.setIdx y v).io = s.io := rfl
@[simp] theorem setIdx_mem (y : Idx) (v : Long) : (s.setIdx y v).mem = s.mem := rfl
@[simp] theorem setIdx_inputs (y : Idx) (v : Long) : (s.setIdx y v).inputs = s.inputs := rfl
@[simp] theorem setIdx_portIn (y : Idx) (v : Long) : (s.setIdx y v).portIn = s.portIn := rfl
@[simp] theorem setIdx_busLog (y : Idx) (v : Long) : (s.setIdx y v).busLog = s.busLog := rfl
@[simp] theorem setIdx_clock (y : Idx) (v : Long) : (s.setIdx y v).clock = s.clock := rfl
@[simp] theorem setIdx_stale (y : Idx) (v : Long) : (s.setIdx y v).stale = s.stale := rfl
@[simp] theorem setIdx_written (y : Idx) (v : Long) : (s.setIdx y v).written = s.written := rfl
@[simp] theorem setIdx_params (y : Idx) (v : Long) : (s.setIdx y v).params = s.params := rfl

@[simp] theorem setIdxAlt_gp (y : Idx) (v : Long) : (s.setIdxAlt y v).gp = s.gp := rfl
@[simp] theorem setIdxAlt_af (y : Idx) (v : Long) : (s.setIdxAlt y v).af = s.af := rfl
@[simp] theorem setIdxAlt_pc (y : Idx) (v : Long) : (s.setIdxAlt y v).pc = s.pc := rfl
@[simp] theorem setIdxAlt_sp (y : Idx) (v : Long) : (s.setIdxAlt y v).sp = s.sp := rfl
@[simp] theorem setIdxAlt_ireg (y : Idx) (v : Long) : (s.setIdxAlt y v).ireg = s.ireg := rfl
@[simp] theorem setIdxAlt_r (y : Idx) (v : Long) : (s.setIdxAlt y v).r = s.r := rfl
@[simp] theorem setIdxAlt_sr (y : Idx) (v : Long) : (s.setIdxAlt y v).sr = s.sr := rfl
@[simp] theorem setIdxAlt_ief2 (y : Idx) (v : Long) : (s.setIdxAlt y v).ief2 = s.ief2 := rfl
@[simp] theorem setIdxAlt_ddir (y : Idx) (v : Long) : (s.setIdxAlt y v).ddir = s.ddir := rfl
@[simp] theorem setIdxAlt_halted (y : Idx) (v : Long) : (s.setIdxAlt y v).halted = s.halted := rfl
@[simp] theorem setIdxAlt_standby (y : Idx) (v : Long) : (s.setIdxAlt y v).standby = s.standby := rfl
@[simp] theorem setIdxAlt_nmiPending (y : Idx) (v : Long) : (s.setIdxAlt y v).nmiPending = s.nmiPending := rfl
@[simp] theorem setIdxAlt_eiShadow (y : Idx) (v : Long) : (s.setIdxAlt y v).eiShadow = s.eiShadow := rfl
@[simp] theorem setIdxAlt_io (y : Idx) (v : Long) : (s.setIdxAlt y v).io = s.io := rfl
@[simp] theorem setIdxAlt_mem (y : Idx) (v : Long) : (s.setIdxAlt y v).mem = s.mem := rfl
@[simp] theorem setIdxAlt_inputs (y : Idx) (v : Long) : (s.setIdxAlt y v).inputs = s.inputs := rfl
@[simp] theorem setIdxAlt_portIn (y : Idx) (v : Long) : (s.setIdxAlt y v).portIn = s.portIn := rfl
@[simp] theorem setIdxAlt_busLog (y : Idx) (v : Long) : (s.setIdxAlt y v).busLog = s.busLog := rfl
@[simp] theorem setIdxAlt_clock (y : Idx) (v : Long) : (s.setIdxAlt y v).clock = s.clock := rfl
@[simp] theorem setIdxAlt_stale (y : Idx) (v : Long) : (s.setIdxAlt y v).stale = s.stale := rfl
@[simp] theorem setIdxAlt_written (y : Idx) (v : Long) : (s.setIdxAlt y v).written = s.written := rfl
@[simp] theorem setIdxAlt_params (y : Idx) (v : Long) : (s.setIdxAlt y v).params = s.params := rfl

@[simp] theorem advance_gp (n : Nat) : (s.advance n).gp = s.gp := rfl
@[simp] theorem advance_af (n : Nat) : (s.advance n).af = s.af := rfl
@[simp] theorem advance_ix (n : Nat) : (s.advance n).ix = s.ix := rfl
@[simp] theorem advance_iy (n : Nat) : (s.advance n).iy = s.iy := rfl
@[simp] theorem advance_sp (n : Nat) : (s.advance n).sp = s.sp := rfl
@[simp] theorem advance_ireg (n : Nat) : (s.advance n).ireg = s.ireg := rfl
@[simp] theorem advance_r (n : Nat) : (s.advance n).r = s.r := rfl
@[simp] theorem advance_sr (n : Nat) : (s.advance n).sr = s.sr := rfl
@[simp] theorem advance_ief2 (n : Nat) : (s.advance n).ief2 = s.ief2 := rfl
@[simp] theorem advance_ddir (n : Nat) : (s.advance n).ddir = s.ddir := rfl
@[simp] theorem advance_halted (n : Nat) : (s.advance n).halted = s.halted := rfl
@[simp] theorem advance_standby (n : Nat) : (s.advance n).standby = s.standby := rfl
@[simp] theorem advance_nmiPending (n : Nat) : (s.advance n).nmiPending = s.nmiPending := rfl
@[simp] theorem advance_eiShadow (n : Nat) : (s.advance n).eiShadow = s.eiShadow := rfl
@[simp] theorem advance_io (n : Nat) : (s.advance n).io = s.io := rfl
@[simp] theorem advance_mem (n : Nat) : (s.advance n).mem = s.mem := rfl
@[simp] theorem advance_inputs (n : Nat) : (s.advance n).inputs = s.inputs := rfl
@[simp] theorem advance_portIn (n : Nat) : (s.advance n).portIn = s.portIn := rfl
@[simp] theorem advance_busLog (n : Nat) : (s.advance n).busLog = s.busLog := rfl
@[simp] theorem advance_clock (n : Nat) : (s.advance n).clock = s.clock := rfl
@[simp] theorem advance_stale (n : Nat) : (s.advance n).stale = s.stale := rfl
@[simp] theorem advance_written (n : Nat) : (s.advance n).written = s.written := rfl
@[simp] theorem advance_params (n : Nat) : (s.advance n).params = s.params := rfl

@[simp] theorem srBits_gp (m : Long) (b : Bool) : (s.srBits m b).gp = s.gp := rfl
@[simp] theorem srBits_af (m : Long) (b : Bool) : (s.srBits m b).af = s.af := rfl
@[simp] theorem srBits_ix (m : Long) (b : Bool) : (s.srBits m b).ix = s.ix := rfl
@[simp] theorem srBits_iy (m : Long) (b : Bool) : (s.srBits m b).iy = s.iy := rfl
@[simp] theorem srBits_pc (m : Long) (b : Bool) : (s.srBits m b).pc = s.pc := rfl
@[simp] theorem srBits_sp (m : Long) (b : Bool) : (s.srBits m b).sp = s.sp := rfl
@[simp] theorem srBits_ireg (m : Long) (b : Bool) : (s.srBits m b).ireg = s.ireg := rfl
@[simp] theorem srBits_r (m : Long) (b : Bool) : (s.srBits m b).r = s.r := rfl
@[simp] theorem srBits_ief2 (m : Long) (b : Bool) : (s.srBits m b).ief2 = s.ief2 := rfl
@[simp] theorem srBits_ddir (m : Long) (b : Bool) : (s.srBits m b).ddir = s.ddir := rfl
@[simp] theorem srBits_halted (m : Long) (b : Bool) : (s.srBits m b).halted = s.halted := rfl
@[simp] theorem srBits_standby (m : Long) (b : Bool) : (s.srBits m b).standby = s.standby := rfl
@[simp] theorem srBits_nmiPending (m : Long) (b : Bool) : (s.srBits m b).nmiPending = s.nmiPending := rfl
@[simp] theorem srBits_eiShadow (m : Long) (b : Bool) : (s.srBits m b).eiShadow = s.eiShadow := rfl
@[simp] theorem srBits_io (m : Long) (b : Bool) : (s.srBits m b).io = s.io := rfl
@[simp] theorem srBits_mem (m : Long) (b : Bool) : (s.srBits m b).mem = s.mem := rfl
@[simp] theorem srBits_inputs (m : Long) (b : Bool) : (s.srBits m b).inputs = s.inputs := rfl
@[simp] theorem srBits_portIn (m : Long) (b : Bool) : (s.srBits m b).portIn = s.portIn := rfl
@[simp] theorem srBits_busLog (m : Long) (b : Bool) : (s.srBits m b).busLog = s.busLog := rfl
@[simp] theorem srBits_clock (m : Long) (b : Bool) : (s.srBits m b).clock = s.clock := rfl
@[simp] theorem srBits_stale (m : Long) (b : Bool) : (s.srBits m b).stale = s.stale := rfl
@[simp] theorem srBits_written (m : Long) (b : Bool) : (s.srBits m b).written = s.written := rfl
@[simp] theorem srBits_params (m : Long) (b : Bool) : (s.srBits m b).params = s.params := rfl

@[simp] theorem srToggle_gp (m : Long) : (s.srToggle m).gp = s.gp := rfl
@[simp] theorem srToggle_af (m : Long) : (s.srToggle m).af = s.af := rfl
@[simp] theorem srToggle_ix (m : Long) : (s.srToggle m).ix = s.ix := rfl
@[simp] theorem srToggle_iy (m : Long) : (s.srToggle m).iy = s.iy := rfl
@[simp] theorem srToggle_pc (m : Long) : (s.srToggle m).pc = s.pc := rfl
@[simp] theorem srToggle_sp (m : Long) : (s.srToggle m).sp = s.sp := rfl
@[simp] theorem srToggle_ireg (m : Long) : (s.srToggle m).ireg = s.ireg := rfl
@[simp] theorem srToggle_r (m : Long) : (s.srToggle m).r = s.r := rfl
@[simp] theorem srToggle_ief2 (m : Long) : (s.srToggle m).ief2 = s.ief2 := rfl
@[simp] theorem srToggle_ddir (m : Long) : (s.srToggle m).ddir = s.ddir := rfl
@[simp] theorem srToggle_halted (m : Long) : (s.srToggle m).halted = s.halted := rfl
@[simp] theorem srToggle_standby (m : Long) : (s.srToggle m).standby = s.standby := rfl
@[simp] theorem srToggle_nmiPending (m : Long) : (s.srToggle m).nmiPending = s.nmiPending := rfl
@[simp] theorem srToggle_eiShadow (m : Long) : (s.srToggle m).eiShadow = s.eiShadow := rfl
@[simp] theorem srToggle_io (m : Long) : (s.srToggle m).io = s.io := rfl
@[simp] theorem srToggle_mem (m : Long) : (s.srToggle m).mem = s.mem := rfl
@[simp] theorem srToggle_inputs (m : Long) : (s.srToggle m).inputs = s.inputs := rfl
@[simp] theorem srToggle_portIn (m : Long) : (s.srToggle m).portIn = s.portIn := rfl
@[simp] theorem srToggle_busLog (m : Long) : (s.srToggle m).busLog = s.busLog := rfl
@[simp] theorem srToggle_clock (m : Long) : (s.srToggle m).clock = s.clock := rfl
@[simp] theorem srToggle_stale (m : Long) : (s.srToggle m).stale = s.stale := rfl
@[simp] theorem srToggle_written (m : Long) : (s.srToggle m).written = s.written := rfl
@[simp] theorem srToggle_params (m : Long) : (s.srToggle m).params = s.params := rfl

@[simp] theorem srWrite_gp (m v : Long) : (s.srWrite m v).gp = s.gp := rfl
@[simp] theorem srWrite_af (m v : Long) : (s.srWrite m v).af = s.af := rfl
@[simp] theorem srWrite_ix (m v : Long) : (s.srWrite m v).ix = s.ix := rfl
@[simp] theorem srWrite_iy (m v : Long) : (s.srWrite m v).iy = s.iy := rfl
@[simp] theorem srWrite_pc (m v : Long) : (s.srWrite m v).pc = s.pc := rfl
@[simp] theorem srWrite_sp (m v : Long) : (s.srWrite m v).sp = s.sp := rfl
@[simp] theorem srWrite_ireg (m v : Long) : (s.srWrite m v).ireg = s.ireg := rfl
@[simp] theorem srWrite_r (m v : Long) : (s.srWrite m v).r = s.r := rfl
@[simp] theorem srWrite_ief2 (m v : Long) : (s.srWrite m v).ief2 = s.ief2 := rfl
@[simp] theorem srWrite_ddir (m v : Long) : (s.srWrite m v).ddir = s.ddir := rfl
@[simp] theorem srWrite_halted (m v : Long) : (s.srWrite m v).halted = s.halted := rfl
@[simp] theorem srWrite_standby (m v : Long) : (s.srWrite m v).standby = s.standby := rfl
@[simp] theorem srWrite_nmiPending (m v : Long) : (s.srWrite m v).nmiPending = s.nmiPending := rfl
@[simp] theorem srWrite_eiShadow (m v : Long) : (s.srWrite m v).eiShadow = s.eiShadow := rfl
@[simp] theorem srWrite_io (m v : Long) : (s.srWrite m v).io = s.io := rfl
@[simp] theorem srWrite_mem (m v : Long) : (s.srWrite m v).mem = s.mem := rfl
@[simp] theorem srWrite_inputs (m v : Long) : (s.srWrite m v).inputs = s.inputs := rfl
@[simp] theorem srWrite_portIn (m v : Long) : (s.srWrite m v).portIn = s.portIn := rfl
@[simp] theorem srWrite_busLog (m v : Long) : (s.srWrite m v).busLog = s.busLog := rfl
@[simp] theorem srWrite_clock (m v : Long) : (s.srWrite m v).clock = s.clock := rfl
@[simp] theorem srWrite_stale (m v : Long) : (s.srWrite m v).stale = s.stale := rfl
@[simp] theorem srWrite_written (m v : Long) : (s.srWrite m v).written = s.written := rfl
@[simp] theorem srWrite_params (m v : Long) : (s.srWrite m v).params = s.params := rfl

@[simp] theorem setFlags_gp (fl : Flags) : (s.setFlags fl).gp = s.gp := rfl
@[simp] theorem setFlags_ix (fl : Flags) : (s.setFlags fl).ix = s.ix := rfl
@[simp] theorem setFlags_iy (fl : Flags) : (s.setFlags fl).iy = s.iy := rfl
@[simp] theorem setFlags_pc (fl : Flags) : (s.setFlags fl).pc = s.pc := rfl
@[simp] theorem setFlags_sp (fl : Flags) : (s.setFlags fl).sp = s.sp := rfl
@[simp] theorem setFlags_ireg (fl : Flags) : (s.setFlags fl).ireg = s.ireg := rfl
@[simp] theorem setFlags_r (fl : Flags) : (s.setFlags fl).r = s.r := rfl
@[simp] theorem setFlags_sr (fl : Flags) : (s.setFlags fl).sr = s.sr := rfl
@[simp] theorem setFlags_ief2 (fl : Flags) : (s.setFlags fl).ief2 = s.ief2 := rfl
@[simp] theorem setFlags_ddir (fl : Flags) : (s.setFlags fl).ddir = s.ddir := rfl
@[simp] theorem setFlags_halted (fl : Flags) : (s.setFlags fl).halted = s.halted := rfl
@[simp] theorem setFlags_standby (fl : Flags) : (s.setFlags fl).standby = s.standby := rfl
@[simp] theorem setFlags_nmiPending (fl : Flags) : (s.setFlags fl).nmiPending = s.nmiPending := rfl
@[simp] theorem setFlags_eiShadow (fl : Flags) : (s.setFlags fl).eiShadow = s.eiShadow := rfl
@[simp] theorem setFlags_io (fl : Flags) : (s.setFlags fl).io = s.io := rfl
@[simp] theorem setFlags_mem (fl : Flags) : (s.setFlags fl).mem = s.mem := rfl
@[simp] theorem setFlags_inputs (fl : Flags) : (s.setFlags fl).inputs = s.inputs := rfl
@[simp] theorem setFlags_portIn (fl : Flags) : (s.setFlags fl).portIn = s.portIn := rfl
@[simp] theorem setFlags_busLog (fl : Flags) : (s.setFlags fl).busLog = s.busLog := rfl
@[simp] theorem setFlags_clock (fl : Flags) : (s.setFlags fl).clock = s.clock := rfl
@[simp] theorem setFlags_stale (fl : Flags) : (s.setFlags fl).stale = s.stale := rfl
@[simp] theorem setFlags_written (fl : Flags) : (s.setFlags fl).written = s.written := rfl
@[simp] theorem setFlags_params (fl : Flags) : (s.setFlags fl).params = s.params := rfl

@[simp] theorem wrPair_af (p : Pair) (v : Long) : (s.wrPair p v).af = s.af := rfl
@[simp] theorem wrPair_ix (p : Pair) (v : Long) : (s.wrPair p v).ix = s.ix := rfl
@[simp] theorem wrPair_iy (p : Pair) (v : Long) : (s.wrPair p v).iy = s.iy := rfl
@[simp] theorem wrPair_pc (p : Pair) (v : Long) : (s.wrPair p v).pc = s.pc := rfl
@[simp] theorem wrPair_sp (p : Pair) (v : Long) : (s.wrPair p v).sp = s.sp := rfl
@[simp] theorem wrPair_ireg (p : Pair) (v : Long) : (s.wrPair p v).ireg = s.ireg := rfl
@[simp] theorem wrPair_r (p : Pair) (v : Long) : (s.wrPair p v).r = s.r := rfl
@[simp] theorem wrPair_sr (p : Pair) (v : Long) : (s.wrPair p v).sr = s.sr := rfl
@[simp] theorem wrPair_ief2 (p : Pair) (v : Long) : (s.wrPair p v).ief2 = s.ief2 := rfl
@[simp] theorem wrPair_ddir (p : Pair) (v : Long) : (s.wrPair p v).ddir = s.ddir := rfl
@[simp] theorem wrPair_halted (p : Pair) (v : Long) : (s.wrPair p v).halted = s.halted := rfl
@[simp] theorem wrPair_standby (p : Pair) (v : Long) : (s.wrPair p v).standby = s.standby := rfl
@[simp] theorem wrPair_nmiPending (p : Pair) (v : Long) : (s.wrPair p v).nmiPending = s.nmiPending := rfl
@[simp] theorem wrPair_eiShadow (p : Pair) (v : Long) : (s.wrPair p v).eiShadow = s.eiShadow := rfl
@[simp] theorem wrPair_io (p : Pair) (v : Long) : (s.wrPair p v).io = s.io := rfl
@[simp] theorem wrPair_mem (p : Pair) (v : Long) : (s.wrPair p v).mem = s.mem := rfl
@[simp] theorem wrPair_inputs (p : Pair) (v : Long) : (s.wrPair p v).inputs = s.inputs := rfl
@[simp] theorem wrPair_portIn (p : Pair) (v : Long) : (s.wrPair p v).portIn = s.portIn := rfl
@[simp] theorem wrPair_busLog (p : Pair) (v : Long) : (s.wrPair p v).busLog = s.busLog := rfl
@[simp] theorem wrPair_clock (p : Pair) (v : Long) : (s.wrPair p v).clock = s.clock := rfl
@[simp] theorem wrPair_stale (p : Pair) (v : Long) : (s.wrPair p v).stale = s.stale := rfl
@[simp] theorem wrPair_written (p : Pair) (v : Long) : (s.wrPair p v).written = s.written := rfl
@[simp] theorem wrPair_params (p : Pair) (v : Long) : (s.wrPair p v).params = s.params := rfl

@[simp] theorem wrPairAlt_af (p : Pair) (v : Long) : (s.wrPairAlt p v).af = s.af := rfl
@[simp] theorem wrPairAlt_ix (p : Pair) (v : Long) : (s.wrPairAlt p v).ix = s.ix := rfl
@[simp] theorem wrPairAlt_iy (p : Pair) (v : Long) : (s.wrPairAlt p v).iy = s.iy := rfl
@[simp] theorem wrPairAlt_pc (p : Pair) (v : Long) : (s.wrPairAlt p v).pc = s.pc := rfl
@[simp] theorem wrPairAlt_sp (p : Pair) (v : Long) : (s.wrPairAlt p v).sp = s.sp := rfl
@[simp] theorem wrPairAlt_ireg (p : Pair) (v : Long) : (s.wrPairAlt p v).ireg = s.ireg := rfl
@[simp] theorem wrPairAlt_r (p : Pair) (v : Long) : (s.wrPairAlt p v).r = s.r := rfl
@[simp] theorem wrPairAlt_sr (p : Pair) (v : Long) : (s.wrPairAlt p v).sr = s.sr := rfl
@[simp] theorem wrPairAlt_ief2 (p : Pair) (v : Long) : (s.wrPairAlt p v).ief2 = s.ief2 := rfl
@[simp] theorem wrPairAlt_ddir (p : Pair) (v : Long) : (s.wrPairAlt p v).ddir = s.ddir := rfl
@[simp] theorem wrPairAlt_halted (p : Pair) (v : Long) : (s.wrPairAlt p v).halted = s.halted := rfl
@[simp] theorem wrPairAlt_standby (p : Pair) (v : Long) : (s.wrPairAlt p v).standby = s.standby := rfl
@[simp] theorem wrPairAlt_nmiPending (p : Pair) (v : Long) : (s.wrPairAlt p v).nmiPending = s.nmiPending := rfl
@[simp] theorem wrPairAlt_eiShadow (p : Pair) (v : Long) : (s.wrPairAlt p v).eiShadow = s.eiShadow := rfl
@[simp] theorem wrPairAlt_io (p : Pair) (v : Long) : (s.wrPairAlt p v).io = s.io := rfl
@[simp] theorem wrPairAlt_mem (p : Pair) (v : Long) : (s.wrPairAlt p v).mem = s.mem := rfl
@[simp] theorem wrPairAlt_inputs (p : Pair) (v : Long) : (s.wrPairAlt p v).inputs = s.inputs := rfl
@[simp] theorem wrPairAlt_portIn (p : Pair) (v : Long) : (s.wrPairAlt p v).portIn = s.portIn := rfl
@[simp] theorem wrPairAlt_busLog (p : Pair) (v : Long) : (s.wrPairAlt p v).busLog = s.busLog := rfl
@[simp] theorem wrPairAlt_clock (p : Pair) (v : Long) : (s.wrPairAlt p v).clock = s.clock := rfl
@[simp] theorem wrPairAlt_stale (p : Pair) (v : Long) : (s.wrPairAlt p v).stale = s.stale := rfl
@[simp] theorem wrPairAlt_written (p : Pair) (v : Long) : (s.wrPairAlt p v).written = s.written := rfl
@[simp] theorem wrPairAlt_params (p : Pair) (v : Long) : (s.wrPairAlt p v).params = s.params := rfl

@[simp] theorem wrIdx_gp (y : Idx) (v : Long) : (s.wrIdx y v).gp = s.gp := rfl
@[simp] theorem wrIdx_af (y : Idx) (v : Long) : (s.wrIdx y v).af = s.af := rfl
@[simp] theorem wrIdx_pc (y : Idx) (v : Long) : (s.wrIdx y v).pc = s.pc := rfl
@[simp] theorem wrIdx_sp (y : Idx) (v : Long) : (s.wrIdx y v).sp = s.sp := rfl
@[simp] theorem wrIdx_ireg (y : Idx) (v : Long) : (s.wrIdx y v).ireg = s.ireg := rfl
@[simp] theorem wrIdx_r (y : Idx) (v : Long) : (s.wrIdx y v).r = s.r := rfl
@[simp] theorem wrIdx_sr (y : Idx) (v : Long) : (s.wrIdx y v).sr = s.sr := rfl
@[simp] theorem wrIdx_ief2 (y : Idx) (v : Long) : (s.wrIdx y v).ief2 = s.ief2 := rfl
@[simp] theorem wrIdx_ddir (y : Idx) (v : Long) : (s.wrIdx y v).ddir = s.ddir := rfl
@[simp] theorem wrIdx_halted (y : Idx) (v : Long) : (s.wrIdx y v).halted = s.halted := rfl
@[simp] theorem wrIdx_standby (y : Idx) (v : Long) : (s.wrIdx y v).standby = s.standby := rfl
@[simp] theorem wrIdx_nmiPending (y : Idx) (v : Long) : (s.wrIdx y v).nmiPending = s.nmiPending := rfl
@[simp] theorem wrIdx_eiShadow (y : Idx) (v : Long) : (s.wrIdx y v).eiShadow = s.eiShadow := rfl
@[simp] theorem wrIdx_io (y : Idx) (v : Long) : (s.wrIdx y v).io = s.io := rfl
@[simp] theorem wrIdx_mem (y : Idx) (v : Long) : (s.wrIdx y v).mem = s.mem := rfl
@[simp] theorem wrIdx_inputs (y : Idx) (v : Long) : (s.wrIdx y v).inputs = s.inputs := rfl
@[simp] theorem wrIdx_portIn (y : Idx) (v : Long) : (s.wrIdx y v).portIn = s.portIn := rfl
@[simp] theorem wrIdx_busLog (y : Idx) (v : Long) : (s.wrIdx y v).busLog = s.busLog := rfl
@[simp] theorem wrIdx_clock (y : Idx) (v : Long) : (s.wrIdx y v).clock = s.clock := rfl
@[simp] theorem wrIdx_stale (y : Idx) (v : Long) : (s.wrIdx y v).stale = s.stale := rfl
@[simp] theorem wrIdx_written (y : Idx) (v : Long) : (s.wrIdx y v).written = s.written := rfl
@[simp] theorem wrIdx_params (y : Idx) (v : Long) : (s.wrIdx y v).params = s.params := rfl

@[simp] theorem wrIdxAlt_gp (y : Idx) (v : Long) : (s.wrIdxAlt y v).gp = s.gp := rfl
@[simp] theorem wrIdxAlt_af (y : Idx) (v : Long) : (s.wrIdxAlt y v).af = s.af := rfl
@[simp] theorem wrIdxAlt_pc (y : Idx) (v : Long) : (s.wrIdxAlt y v).pc = s.pc := rfl
@[simp] theorem wrIdxAlt_sp (y : Idx) (v : Long) : (s.wrIdxAlt y v).sp = s.sp := rfl
@[simp] theorem wrIdxAlt_ireg (y : Idx) (v : Long) : (s.wrIdxAlt y v).ireg = s.ireg := rfl
@[simp] theorem wrIdxAlt_r (y : Idx) (v : Long) : (s.wrIdxAlt y v).r = s.r := rfl
@[simp] theorem wrIdxAlt_sr (y : Idx) (v : Long) : (s.wrIdxAlt y v).sr = s.sr := rfl
@[simp] theorem wrIdxAlt_ief2 (y : Idx) (v : Long) : (s.wrIdxAlt y v).ief2 = s.ief2 := rfl
@[simp] theorem wrIdxAlt_ddir (y : Idx) (v : Long) : (s.wrIdxAlt y v).ddir = s.ddir := rfl
@[simp] theorem wrIdxAlt_halted (y : Idx) (v : Long) : (s.wrIdxAlt y v).halted = s.halted := rfl
@[simp] theorem wrIdxAlt_standby (y : Idx) (v : Long) : (s.wrIdxAlt y v).standby = s.standby := rfl
@[simp] theorem wrIdxAlt_nmiPending (y : Idx) (v : Long) : (s.wrIdxAlt y v).nmiPending = s.nmiPending := rfl
@[simp] theorem wrIdxAlt_eiShadow (y : Idx) (v : Long) : (s.wrIdxAlt y v).eiShadow = s.eiShadow := rfl
@[simp] theorem wrIdxAlt_io (y : Idx) (v : Long) : (s.wrIdxAlt y v).io = s.io := rfl
@[simp] theorem wrIdxAlt_mem (y : Idx) (v : Long) : (s.wrIdxAlt y v).mem = s.mem := rfl
@[simp] theorem wrIdxAlt_inputs (y : Idx) (v : Long) : (s.wrIdxAlt y v).inputs = s.inputs := rfl
@[simp] theorem wrIdxAlt_portIn (y : Idx) (v : Long) : (s.wrIdxAlt y v).portIn = s.portIn := rfl
@[simp] theorem wrIdxAlt_busLog (y : Idx) (v : Long) : (s.wrIdxAlt y v).busLog = s.busLog := rfl
@[simp] theorem wrIdxAlt_clock (y : Idx) (v : Long) : (s.wrIdxAlt y v).clock = s.clock := rfl
@[simp] theorem wrIdxAlt_stale (y : Idx) (v : Long) : (s.wrIdxAlt y v).stale = s.stale := rfl
@[simp] theorem wrIdxAlt_written (y : Idx) (v : Long) : (s.wrIdxAlt y v).written = s.written := rfl
@[simp] theorem wrIdxAlt_params (y : Idx) (v : Long) : (s.wrIdxAlt y v).params = s.params := rfl

@[simp] theorem setPairLo_af (p : Pair) (w : Word) : (s.setPairLo p w).af = s.af := rfl
@[simp] theorem setPairLo_ix (p : Pair) (w : Word) : (s.setPairLo p w).ix = s.ix := rfl
@[simp] theorem setPairLo_iy (p : Pair) (w : Word) : (s.setPairLo p w).iy = s.iy := rfl
@[simp] theorem setPairLo_pc (p : Pair) (w : Word) : (s.setPairLo p w).pc = s.pc := rfl
@[simp] theorem setPairLo_sp (p : Pair) (w : Word) : (s.setPairLo p w).sp = s.sp := rfl
@[simp] theorem setPairLo_ireg (p : Pair) (w : Word) : (s.setPairLo p w).ireg = s.ireg := rfl
@[simp] theorem setPairLo_r (p : Pair) (w : Word) : (s.setPairLo p w).r = s.r := rfl
@[simp] theorem setPairLo_sr (p : Pair) (w : Word) : (s.setPairLo p w).sr = s.sr := rfl
@[simp] theorem setPairLo_ief2 (p : Pair) (w : Word) : (s.setPairLo p w).ief2 = s.ief2 := rfl
@[simp] theorem setPairLo_ddir (p : Pair) (w : Word) : (s.setPairLo p w).ddir = s.ddir := rfl
@[simp] theorem setPairLo_halted (p : Pair) (w : Word) : (s.setPairLo p w).halted = s.halted := rfl
@[simp] theorem setPairLo_standby (p : Pair) (w : Word) : (s.setPairLo p w).standby = s.standby := rfl
@[simp] theorem setPairLo_nmiPending (p : Pair) (w : Word) : (s.setPairLo p w).nmiPending = s.nmiPending := rfl
@[simp] theorem setPairLo_eiShadow (p : Pair) (w : Word) : (s.setPairLo p w).eiShadow = s.eiShadow := rfl
@[simp] theorem setPairLo_io (p : Pair) (w : Word) : (s.setPairLo p w).io = s.io := rfl
@[simp] theorem setPairLo_mem (p : Pair) (w : Word) : (s.setPairLo p w).mem = s.mem := rfl
@[simp] theorem setPairLo_inputs (p : Pair) (w : Word) : (s.setPairLo p w).inputs = s.inputs := rfl
@[simp] theorem setPairLo_portIn (p : Pair) (w : Word) : (s.setPairLo p w).portIn = s.portIn := rfl
@[simp] theorem setPairLo_busLog (p : Pair) (w : Word) : (s.setPairLo p w).busLog = s.busLog := rfl
@[simp] theorem setPairLo_clock (p : Pair) (w : Word) : (s.setPairLo p w).clock = s.clock := rfl
@[simp] theorem setPairLo_stale (p : Pair) (w : Word) : (s.setPairLo p w).stale = s.stale := rfl
@[simp] theorem setPairLo_written (p : Pair) (w : Word) : (s.setPairLo p w).written = s.written := rfl
@[simp] theorem setPairLo_params (p : Pair) (w : Word) : (s.setPairLo p w).params = s.params := rfl

@[simp] theorem stepPair_af (p : Pair) (k : Long) : (s.stepPair p k).af = s.af := rfl
@[simp] theorem stepPair_ix (p : Pair) (k : Long) : (s.stepPair p k).ix = s.ix := rfl
@[simp] theorem stepPair_iy (p : Pair) (k : Long) : (s.stepPair p k).iy = s.iy := rfl
@[simp] theorem stepPair_pc (p : Pair) (k : Long) : (s.stepPair p k).pc = s.pc := rfl
@[simp] theorem stepPair_sp (p : Pair) (k : Long) : (s.stepPair p k).sp = s.sp := rfl
@[simp] theorem stepPair_ireg (p : Pair) (k : Long) : (s.stepPair p k).ireg = s.ireg := rfl
@[simp] theorem stepPair_r (p : Pair) (k : Long) : (s.stepPair p k).r = s.r := rfl
@[simp] theorem stepPair_sr (p : Pair) (k : Long) : (s.stepPair p k).sr = s.sr := rfl
@[simp] theorem stepPair_ief2 (p : Pair) (k : Long) : (s.stepPair p k).ief2 = s.ief2 := rfl
@[simp] theorem stepPair_ddir (p : Pair) (k : Long) : (s.stepPair p k).ddir = s.ddir := rfl
@[simp] theorem stepPair_halted (p : Pair) (k : Long) : (s.stepPair p k).halted = s.halted := rfl
@[simp] theorem stepPair_standby (p : Pair) (k : Long) : (s.stepPair p k).standby = s.standby := rfl
@[simp] theorem stepPair_nmiPending (p : Pair) (k : Long) : (s.stepPair p k).nmiPending = s.nmiPending := rfl
@[simp] theorem stepPair_eiShadow (p : Pair) (k : Long) : (s.stepPair p k).eiShadow = s.eiShadow := rfl
@[simp] theorem stepPair_io (p : Pair) (k : Long) : (s.stepPair p k).io = s.io := rfl
@[simp] theorem stepPair_mem (p : Pair) (k : Long) : (s.stepPair p k).mem = s.mem := rfl
@[simp] theorem stepPair_inputs (p : Pair) (k : Long) : (s.stepPair p k).inputs = s.inputs := rfl
@[simp] theorem stepPair_portIn (p : Pair) (k : Long) : (s.stepPair p k).portIn = s.portIn := rfl
@[simp] theorem stepPair_busLog (p : Pair) (k : Long) : (s.stepPair p k).busLog = s.busLog := rfl
@[simp] theorem stepPair_clock (p : Pair) (k : Long) : (s.stepPair p k).clock = s.clock := rfl
@[simp] theorem stepPair_stale (p : Pair) (k : Long) : (s.stepPair p k).stale = s.stale := rfl
@[simp] theorem stepPair_written (p : Pair) (k : Long) : (s.stepPair p k).written = s.written := rfl
@[simp] theorem stepPair_params (p : Pair) (k : Long) : (s.stepPair p k).params = s.params := rfl

@[simp] theorem writeWord_gp (a : Long) (w : Word) : (s.writeWord a w).gp = s.gp := rfl
@[simp] theorem writeWord_af (a : Long) (w : Word) : (s.writeWord a w).af = s.af := rfl
@[simp] theorem writeWord_ix (a : Long) (w : Word) : (s.writeWord a w).ix = s.ix := rfl
@[simp] theorem writeWord_iy (a : Long) (w : Word) : (s.writeWord a w).iy = s.iy := rfl
@[simp] theorem writeWord_pc (a : Long) (w : Word) : (s.writeWord a w).pc = s.pc := rfl
@[simp] theorem writeWord_sp (a : Long) (w : Word) : (s.writeWord a w).sp = s.sp := rfl
@[simp] theorem writeWord_ireg (a : Long) (w : Word) : (s.writeWord a w).ireg = s.ireg := rfl
@[simp] theorem writeWord_r (a : Long) (w : Word) : (s.writeWord a w).r = s.r := rfl
@[simp] theorem writeWord_sr (a : Long) (w : Word) : (s.writeWord a w).sr = s.sr := rfl
@[simp] theorem writeWord_ief2 (a : Long) (w : Word) : (s.writeWord a w).ief2 = s.ief2 := rfl
@[simp] theorem writeWord_ddir (a : Long) (w : Word) : (s.writeWord a w).ddir = s.ddir := rfl
@[simp] theorem writeWord_halted (a : Long) (w : Word) : (s.writeWord a w).halted = s.halted := rfl
@[simp] theorem writeWord_standby (a : Long) (w : Word) : (s.writeWord a w).standby = s.standby := rfl
@[simp] theorem writeWord_nmiPending (a : Long) (w : Word) : (s.writeWord a w).nmiPending = s.nmiPending := rfl
@[simp] theorem writeWord_eiShadow (a : Long) (w : Word) : (s.writeWord a w).eiShadow = s.eiShadow := rfl
@[simp] theorem writeWord_io (a : Long) (w : Word) : (s.writeWord a w).io = s.io := rfl
@[simp] theorem writeWord_inputs (a : Long) (w : Word) : (s.writeWord a w).inputs = s.inputs := rfl
@[simp] theorem writeWord_portIn (a : Long) (w : Word) : (s.writeWord a w).portIn = s.portIn := rfl
@[simp] theorem writeWord_clock (a : Long) (w : Word) : (s.writeWord a w).clock = s.clock := rfl
@[simp] theorem writeWord_stale (a : Long) (w : Word) : (s.writeWord a w).stale = s.stale := rfl
@[simp] theorem writeWord_params (a : Long) (w : Word) : (s.writeWord a w).params = s.params := rfl

@[simp] theorem writeLong_gp (a v : Long) : (s.writeLong a v).gp = s.gp := by
  rw [State.writeLong, writeWord_gp, writeWord_gp]
@[simp] theorem writeLong_af (a v : Long) : (s.writeLong a v).af = s.af := by
  rw [State.writeLong, writeWord_af, writeWord_af]
@[simp] theorem writeLong_ix (a v : Long) : (s.writeLong a v).ix = s.ix := by
  rw [State.writeLong, writeWord_ix, writeWord_ix]
@[simp] theorem writeLong_iy (a v : Long) : (s.writeLong a v).iy = s.iy := by
  rw [State.writeLong, writeWord_iy, writeWord_iy]
@[simp] theorem writeLong_pc (a v : Long) : (s.writeLong a v).pc = s.pc := by
  rw [State.writeLong, writeWord_pc, writeWord_pc]
@[simp] theorem writeLong_sp (a v : Long) : (s.writeLong a v).sp = s.sp := by
  rw [State.writeLong, writeWord_sp, writeWord_sp]
@[simp] theorem writeLong_ireg (a v : Long) : (s.writeLong a v).ireg = s.ireg := by
  rw [State.writeLong, writeWord_ireg, writeWord_ireg]
@[simp] theorem writeLong_r (a v : Long) : (s.writeLong a v).r = s.r := by
  rw [State.writeLong, writeWord_r, writeWord_r]
@[simp] theorem writeLong_sr (a v : Long) : (s.writeLong a v).sr = s.sr := by
  rw [State.writeLong, writeWord_sr, writeWord_sr]
@[simp] theorem writeLong_ief2 (a v : Long) : (s.writeLong a v).ief2 = s.ief2 := by
  rw [State.writeLong, writeWord_ief2, writeWord_ief2]
@[simp] theorem writeLong_ddir (a v : Long) : (s.writeLong a v).ddir = s.ddir := by
  rw [State.writeLong, writeWord_ddir, writeWord_ddir]
@[simp] theorem writeLong_halted (a v : Long) : (s.writeLong a v).halted = s.halted := by
  rw [State.writeLong, writeWord_halted, writeWord_halted]
@[simp] theorem writeLong_standby (a v : Long) : (s.writeLong a v).standby = s.standby := by
  rw [State.writeLong, writeWord_standby, writeWord_standby]
@[simp] theorem writeLong_nmiPending (a v : Long) : (s.writeLong a v).nmiPending = s.nmiPending := by
  rw [State.writeLong, writeWord_nmiPending, writeWord_nmiPending]
@[simp] theorem writeLong_eiShadow (a v : Long) : (s.writeLong a v).eiShadow = s.eiShadow := by
  rw [State.writeLong, writeWord_eiShadow, writeWord_eiShadow]
@[simp] theorem writeLong_io (a v : Long) : (s.writeLong a v).io = s.io := by
  rw [State.writeLong, writeWord_io, writeWord_io]
@[simp] theorem writeLong_inputs (a v : Long) : (s.writeLong a v).inputs = s.inputs := by
  rw [State.writeLong, writeWord_inputs, writeWord_inputs]
@[simp] theorem writeLong_portIn (a v : Long) : (s.writeLong a v).portIn = s.portIn := by
  rw [State.writeLong, writeWord_portIn, writeWord_portIn]
@[simp] theorem writeLong_clock (a v : Long) : (s.writeLong a v).clock = s.clock := by
  rw [State.writeLong, writeWord_clock, writeWord_clock]
@[simp] theorem writeLong_stale (a v : Long) : (s.writeLong a v).stale = s.stale := by
  rw [State.writeLong, writeWord_stale, writeWord_stale]
@[simp] theorem writeLong_params (a v : Long) : (s.writeLong a v).params = s.params := by
  rw [State.writeLong, writeWord_params, writeWord_params]

@[simp] theorem pushWord_gp (a : Long) (w : Word) : (s.pushWord a w).gp = s.gp := rfl
@[simp] theorem pushWord_af (a : Long) (w : Word) : (s.pushWord a w).af = s.af := rfl
@[simp] theorem pushWord_ix (a : Long) (w : Word) : (s.pushWord a w).ix = s.ix := rfl
@[simp] theorem pushWord_iy (a : Long) (w : Word) : (s.pushWord a w).iy = s.iy := rfl
@[simp] theorem pushWord_pc (a : Long) (w : Word) : (s.pushWord a w).pc = s.pc := rfl
@[simp] theorem pushWord_sp (a : Long) (w : Word) : (s.pushWord a w).sp = s.sp := rfl
@[simp] theorem pushWord_ireg (a : Long) (w : Word) : (s.pushWord a w).ireg = s.ireg := rfl
@[simp] theorem pushWord_r (a : Long) (w : Word) : (s.pushWord a w).r = s.r := rfl
@[simp] theorem pushWord_sr (a : Long) (w : Word) : (s.pushWord a w).sr = s.sr := rfl
@[simp] theorem pushWord_ief2 (a : Long) (w : Word) : (s.pushWord a w).ief2 = s.ief2 := rfl
@[simp] theorem pushWord_ddir (a : Long) (w : Word) : (s.pushWord a w).ddir = s.ddir := rfl
@[simp] theorem pushWord_halted (a : Long) (w : Word) : (s.pushWord a w).halted = s.halted := rfl
@[simp] theorem pushWord_standby (a : Long) (w : Word) : (s.pushWord a w).standby = s.standby := rfl
@[simp] theorem pushWord_nmiPending (a : Long) (w : Word) : (s.pushWord a w).nmiPending = s.nmiPending := rfl
@[simp] theorem pushWord_eiShadow (a : Long) (w : Word) : (s.pushWord a w).eiShadow = s.eiShadow := rfl
@[simp] theorem pushWord_io (a : Long) (w : Word) : (s.pushWord a w).io = s.io := rfl
@[simp] theorem pushWord_inputs (a : Long) (w : Word) : (s.pushWord a w).inputs = s.inputs := rfl
@[simp] theorem pushWord_portIn (a : Long) (w : Word) : (s.pushWord a w).portIn = s.portIn := rfl
@[simp] theorem pushWord_clock (a : Long) (w : Word) : (s.pushWord a w).clock = s.clock := rfl
@[simp] theorem pushWord_stale (a : Long) (w : Word) : (s.pushWord a w).stale = s.stale := rfl
@[simp] theorem pushWord_params (a : Long) (w : Word) : (s.pushWord a w).params = s.params := rfl

@[simp] theorem pushLong_gp (a v : Long) : (s.pushLong a v).gp = s.gp := by
  rw [State.pushLong, pushWord_gp, pushWord_gp]
@[simp] theorem pushLong_af (a v : Long) : (s.pushLong a v).af = s.af := by
  rw [State.pushLong, pushWord_af, pushWord_af]
@[simp] theorem pushLong_ix (a v : Long) : (s.pushLong a v).ix = s.ix := by
  rw [State.pushLong, pushWord_ix, pushWord_ix]
@[simp] theorem pushLong_iy (a v : Long) : (s.pushLong a v).iy = s.iy := by
  rw [State.pushLong, pushWord_iy, pushWord_iy]
@[simp] theorem pushLong_pc (a v : Long) : (s.pushLong a v).pc = s.pc := by
  rw [State.pushLong, pushWord_pc, pushWord_pc]
@[simp] theorem pushLong_sp (a v : Long) : (s.pushLong a v).sp = s.sp := by
  rw [State.pushLong, pushWord_sp, pushWord_sp]
@[simp] theorem pushLong_ireg (a v : Long) : (s.pushLong a v).ireg = s.ireg := by
  rw [State.pushLong, pushWord_ireg, pushWord_ireg]
@[simp] theorem pushLong_r (a v : Long) : (s.pushLong a v).r = s.r := by
  rw [State.pushLong, pushWord_r, pushWord_r]
@[simp] theorem pushLong_sr (a v : Long) : (s.pushLong a v).sr = s.sr := by
  rw [State.pushLong, pushWord_sr, pushWord_sr]
@[simp] theorem pushLong_ief2 (a v : Long) : (s.pushLong a v).ief2 = s.ief2 := by
  rw [State.pushLong, pushWord_ief2, pushWord_ief2]
@[simp] theorem pushLong_ddir (a v : Long) : (s.pushLong a v).ddir = s.ddir := by
  rw [State.pushLong, pushWord_ddir, pushWord_ddir]
@[simp] theorem pushLong_halted (a v : Long) : (s.pushLong a v).halted = s.halted := by
  rw [State.pushLong, pushWord_halted, pushWord_halted]
@[simp] theorem pushLong_standby (a v : Long) : (s.pushLong a v).standby = s.standby := by
  rw [State.pushLong, pushWord_standby, pushWord_standby]
@[simp] theorem pushLong_nmiPending (a v : Long) : (s.pushLong a v).nmiPending = s.nmiPending := by
  rw [State.pushLong, pushWord_nmiPending, pushWord_nmiPending]
@[simp] theorem pushLong_eiShadow (a v : Long) : (s.pushLong a v).eiShadow = s.eiShadow := by
  rw [State.pushLong, pushWord_eiShadow, pushWord_eiShadow]
@[simp] theorem pushLong_io (a v : Long) : (s.pushLong a v).io = s.io := by
  rw [State.pushLong, pushWord_io, pushWord_io]
@[simp] theorem pushLong_inputs (a v : Long) : (s.pushLong a v).inputs = s.inputs := by
  rw [State.pushLong, pushWord_inputs, pushWord_inputs]
@[simp] theorem pushLong_portIn (a v : Long) : (s.pushLong a v).portIn = s.portIn := by
  rw [State.pushLong, pushWord_portIn, pushWord_portIn]
@[simp] theorem pushLong_clock (a v : Long) : (s.pushLong a v).clock = s.clock := by
  rw [State.pushLong, pushWord_clock, pushWord_clock]
@[simp] theorem pushLong_stale (a v : Long) : (s.pushLong a v).stale = s.stale := by
  rw [State.pushLong, pushWord_stale, pushWord_stale]
@[simp] theorem pushLong_params (a v : Long) : (s.pushLong a v).params = s.params := by
  rw [State.pushLong, pushWord_params, pushWord_params]

@[simp] theorem dropped_gp (w : Bool) : (s.dropped w).gp = s.gp := rfl
@[simp] theorem dropped_af (w : Bool) : (s.dropped w).af = s.af := rfl
@[simp] theorem dropped_ix (w : Bool) : (s.dropped w).ix = s.ix := rfl
@[simp] theorem dropped_iy (w : Bool) : (s.dropped w).iy = s.iy := rfl
@[simp] theorem dropped_pc (w : Bool) : (s.dropped w).pc = s.pc := rfl
@[simp] theorem dropped_ireg (w : Bool) : (s.dropped w).ireg = s.ireg := rfl
@[simp] theorem dropped_r (w : Bool) : (s.dropped w).r = s.r := rfl
@[simp] theorem dropped_sr (w : Bool) : (s.dropped w).sr = s.sr := rfl
@[simp] theorem dropped_ief2 (w : Bool) : (s.dropped w).ief2 = s.ief2 := rfl
@[simp] theorem dropped_ddir (w : Bool) : (s.dropped w).ddir = s.ddir := rfl
@[simp] theorem dropped_halted (w : Bool) : (s.dropped w).halted = s.halted := rfl
@[simp] theorem dropped_standby (w : Bool) : (s.dropped w).standby = s.standby := rfl
@[simp] theorem dropped_nmiPending (w : Bool) : (s.dropped w).nmiPending = s.nmiPending := rfl
@[simp] theorem dropped_eiShadow (w : Bool) : (s.dropped w).eiShadow = s.eiShadow := rfl
@[simp] theorem dropped_io (w : Bool) : (s.dropped w).io = s.io := rfl
@[simp] theorem dropped_mem (w : Bool) : (s.dropped w).mem = s.mem := rfl
@[simp] theorem dropped_inputs (w : Bool) : (s.dropped w).inputs = s.inputs := rfl
@[simp] theorem dropped_portIn (w : Bool) : (s.dropped w).portIn = s.portIn := rfl
@[simp] theorem dropped_busLog (w : Bool) : (s.dropped w).busLog = s.busLog := rfl
@[simp] theorem dropped_clock (w : Bool) : (s.dropped w).clock = s.clock := rfl
@[simp] theorem dropped_stale (w : Bool) : (s.dropped w).stale = s.stale := rfl
@[simp] theorem dropped_written (w : Bool) : (s.dropped w).written = s.written := rfl
@[simp] theorem dropped_params (w : Bool) : (s.dropped w).params = s.params := rfl

@[simp] theorem writeW_gp (w : Bool) (a v : Long) : (s.writeW w a v).gp = s.gp := by
  cases w
  · exact writeWord_gp s a _
  · exact writeLong_gp s a v
@[simp] theorem pushW_gp (w : Bool) (a v : Long) : (s.pushW w a v).gp = s.gp := by
  cases w
  · exact pushWord_gp s a _
  · exact pushLong_gp s a v
@[simp] theorem writeW_af (w : Bool) (a v : Long) : (s.writeW w a v).af = s.af := by
  cases w
  · exact writeWord_af s a _
  · exact writeLong_af s a v
@[simp] theorem pushW_af (w : Bool) (a v : Long) : (s.pushW w a v).af = s.af := by
  cases w
  · exact pushWord_af s a _
  · exact pushLong_af s a v
@[simp] theorem writeW_ix (w : Bool) (a v : Long) : (s.writeW w a v).ix = s.ix := by
  cases w
  · exact writeWord_ix s a _
  · exact writeLong_ix s a v
@[simp] theorem pushW_ix (w : Bool) (a v : Long) : (s.pushW w a v).ix = s.ix := by
  cases w
  · exact pushWord_ix s a _
  · exact pushLong_ix s a v
@[simp] theorem writeW_iy (w : Bool) (a v : Long) : (s.writeW w a v).iy = s.iy := by
  cases w
  · exact writeWord_iy s a _
  · exact writeLong_iy s a v
@[simp] theorem pushW_iy (w : Bool) (a v : Long) : (s.pushW w a v).iy = s.iy := by
  cases w
  · exact pushWord_iy s a _
  · exact pushLong_iy s a v
@[simp] theorem writeW_pc (w : Bool) (a v : Long) : (s.writeW w a v).pc = s.pc := by
  cases w
  · exact writeWord_pc s a _
  · exact writeLong_pc s a v
@[simp] theorem pushW_pc (w : Bool) (a v : Long) : (s.pushW w a v).pc = s.pc := by
  cases w
  · exact pushWord_pc s a _
  · exact pushLong_pc s a v
@[simp] theorem writeW_sp (w : Bool) (a v : Long) : (s.writeW w a v).sp = s.sp := by
  cases w
  · exact writeWord_sp s a _
  · exact writeLong_sp s a v
@[simp] theorem pushW_sp (w : Bool) (a v : Long) : (s.pushW w a v).sp = s.sp := by
  cases w
  · exact pushWord_sp s a _
  · exact pushLong_sp s a v
@[simp] theorem writeW_ireg (w : Bool) (a v : Long) : (s.writeW w a v).ireg = s.ireg := by
  cases w
  · exact writeWord_ireg s a _
  · exact writeLong_ireg s a v
@[simp] theorem pushW_ireg (w : Bool) (a v : Long) : (s.pushW w a v).ireg = s.ireg := by
  cases w
  · exact pushWord_ireg s a _
  · exact pushLong_ireg s a v
@[simp] theorem writeW_r (w : Bool) (a v : Long) : (s.writeW w a v).r = s.r := by
  cases w
  · exact writeWord_r s a _
  · exact writeLong_r s a v
@[simp] theorem pushW_r (w : Bool) (a v : Long) : (s.pushW w a v).r = s.r := by
  cases w
  · exact pushWord_r s a _
  · exact pushLong_r s a v
@[simp] theorem writeW_sr (w : Bool) (a v : Long) : (s.writeW w a v).sr = s.sr := by
  cases w
  · exact writeWord_sr s a _
  · exact writeLong_sr s a v
@[simp] theorem pushW_sr (w : Bool) (a v : Long) : (s.pushW w a v).sr = s.sr := by
  cases w
  · exact pushWord_sr s a _
  · exact pushLong_sr s a v
@[simp] theorem writeW_ief2 (w : Bool) (a v : Long) : (s.writeW w a v).ief2 = s.ief2 := by
  cases w
  · exact writeWord_ief2 s a _
  · exact writeLong_ief2 s a v
@[simp] theorem pushW_ief2 (w : Bool) (a v : Long) : (s.pushW w a v).ief2 = s.ief2 := by
  cases w
  · exact pushWord_ief2 s a _
  · exact pushLong_ief2 s a v
@[simp] theorem writeW_ddir (w : Bool) (a v : Long) : (s.writeW w a v).ddir = s.ddir := by
  cases w
  · exact writeWord_ddir s a _
  · exact writeLong_ddir s a v
@[simp] theorem pushW_ddir (w : Bool) (a v : Long) : (s.pushW w a v).ddir = s.ddir := by
  cases w
  · exact pushWord_ddir s a _
  · exact pushLong_ddir s a v
@[simp] theorem writeW_halted (w : Bool) (a v : Long) : (s.writeW w a v).halted = s.halted := by
  cases w
  · exact writeWord_halted s a _
  · exact writeLong_halted s a v
@[simp] theorem pushW_halted (w : Bool) (a v : Long) : (s.pushW w a v).halted = s.halted := by
  cases w
  · exact pushWord_halted s a _
  · exact pushLong_halted s a v
@[simp] theorem writeW_standby (w : Bool) (a v : Long) : (s.writeW w a v).standby = s.standby := by
  cases w
  · exact writeWord_standby s a _
  · exact writeLong_standby s a v
@[simp] theorem pushW_standby (w : Bool) (a v : Long) : (s.pushW w a v).standby = s.standby := by
  cases w
  · exact pushWord_standby s a _
  · exact pushLong_standby s a v
@[simp] theorem writeW_nmiPending (w : Bool) (a v : Long) : (s.writeW w a v).nmiPending = s.nmiPending := by
  cases w
  · exact writeWord_nmiPending s a _
  · exact writeLong_nmiPending s a v
@[simp] theorem pushW_nmiPending (w : Bool) (a v : Long) : (s.pushW w a v).nmiPending = s.nmiPending := by
  cases w
  · exact pushWord_nmiPending s a _
  · exact pushLong_nmiPending s a v
@[simp] theorem writeW_eiShadow (w : Bool) (a v : Long) : (s.writeW w a v).eiShadow = s.eiShadow := by
  cases w
  · exact writeWord_eiShadow s a _
  · exact writeLong_eiShadow s a v
@[simp] theorem pushW_eiShadow (w : Bool) (a v : Long) : (s.pushW w a v).eiShadow = s.eiShadow := by
  cases w
  · exact pushWord_eiShadow s a _
  · exact pushLong_eiShadow s a v
@[simp] theorem writeW_io (w : Bool) (a v : Long) : (s.writeW w a v).io = s.io := by
  cases w
  · exact writeWord_io s a _
  · exact writeLong_io s a v
@[simp] theorem pushW_io (w : Bool) (a v : Long) : (s.pushW w a v).io = s.io := by
  cases w
  · exact pushWord_io s a _
  · exact pushLong_io s a v
@[simp] theorem writeW_inputs (w : Bool) (a v : Long) : (s.writeW w a v).inputs = s.inputs := by
  cases w
  · exact writeWord_inputs s a _
  · exact writeLong_inputs s a v
@[simp] theorem pushW_inputs (w : Bool) (a v : Long) : (s.pushW w a v).inputs = s.inputs := by
  cases w
  · exact pushWord_inputs s a _
  · exact pushLong_inputs s a v
@[simp] theorem writeW_portIn (w : Bool) (a v : Long) : (s.writeW w a v).portIn = s.portIn := by
  cases w
  · exact writeWord_portIn s a _
  · exact writeLong_portIn s a v
@[simp] theorem pushW_portIn (w : Bool) (a v : Long) : (s.pushW w a v).portIn = s.portIn := by
  cases w
  · exact pushWord_portIn s a _
  · exact pushLong_portIn s a v
@[simp] theorem writeW_clock (w : Bool) (a v : Long) : (s.writeW w a v).clock = s.clock := by
  cases w
  · exact writeWord_clock s a _
  · exact writeLong_clock s a v
@[simp] theorem pushW_clock (w : Bool) (a v : Long) : (s.pushW w a v).clock = s.clock := by
  cases w
  · exact pushWord_clock s a _
  · exact pushLong_clock s a v
@[simp] theorem writeW_stale (w : Bool) (a v : Long) : (s.writeW w a v).stale = s.stale := by
  cases w
  · exact writeWord_stale s a _
  · exact writeLong_stale s a v
@[simp] theorem pushW_stale (w : Bool) (a v : Long) : (s.pushW w a v).stale = s.stale := by
  cases w
  · exact pushWord_stale s a _
  · exact pushLong_stale s a v
@[simp] theorem writeW_params (w : Bool) (a v : Long) : (s.writeW w a v).params = s.params := by
  cases w
  · exact writeWord_params s a _
  · exact writeLong_params s a v
@[simp] theorem pushW_params (w : Bool) (a v : Long) : (s.pushW w a v).params = s.params := by
  cases w
  · exact pushWord_params s a _
  · exact pushLong_params s a v
@[simp] theorem push_gp (w : Bool) (v : Long) : (s.push w v).gp = s.gp := by
  rw [State.push, pushW_gp, setSp_gp]
@[simp] theorem push_af (w : Bool) (v : Long) : (s.push w v).af = s.af := by
  rw [State.push, pushW_af, setSp_af]
@[simp] theorem push_ix (w : Bool) (v : Long) : (s.push w v).ix = s.ix := by
  rw [State.push, pushW_ix, setSp_ix]
@[simp] theorem push_iy (w : Bool) (v : Long) : (s.push w v).iy = s.iy := by
  rw [State.push, pushW_iy, setSp_iy]
@[simp] theorem push_pc (w : Bool) (v : Long) : (s.push w v).pc = s.pc := by
  rw [State.push, pushW_pc, setSp_pc]
@[simp] theorem push_ireg (w : Bool) (v : Long) : (s.push w v).ireg = s.ireg := by
  rw [State.push, pushW_ireg, setSp_ireg]
@[simp] theorem push_r (w : Bool) (v : Long) : (s.push w v).r = s.r := by
  rw [State.push, pushW_r, setSp_r]
@[simp] theorem push_sr (w : Bool) (v : Long) : (s.push w v).sr = s.sr := by
  rw [State.push, pushW_sr, setSp_sr]
@[simp] theorem push_ief2 (w : Bool) (v : Long) : (s.push w v).ief2 = s.ief2 := by
  rw [State.push, pushW_ief2, setSp_ief2]
@[simp] theorem push_ddir (w : Bool) (v : Long) : (s.push w v).ddir = s.ddir := by
  rw [State.push, pushW_ddir, setSp_ddir]
@[simp] theorem push_halted (w : Bool) (v : Long) : (s.push w v).halted = s.halted := by
  rw [State.push, pushW_halted, setSp_halted]
@[simp] theorem push_standby (w : Bool) (v : Long) : (s.push w v).standby = s.standby := by
  rw [State.push, pushW_standby, setSp_standby]
@[simp] theorem push_nmiPending (w : Bool) (v : Long) : (s.push w v).nmiPending = s.nmiPending := by
  rw [State.push, pushW_nmiPending, setSp_nmiPending]
@[simp] theorem push_eiShadow (w : Bool) (v : Long) : (s.push w v).eiShadow = s.eiShadow := by
  rw [State.push, pushW_eiShadow, setSp_eiShadow]
@[simp] theorem push_io (w : Bool) (v : Long) : (s.push w v).io = s.io := by
  rw [State.push, pushW_io, setSp_io]
@[simp] theorem push_inputs (w : Bool) (v : Long) : (s.push w v).inputs = s.inputs := by
  rw [State.push, pushW_inputs, setSp_inputs]
@[simp] theorem push_portIn (w : Bool) (v : Long) : (s.push w v).portIn = s.portIn := by
  rw [State.push, pushW_portIn, setSp_portIn]
@[simp] theorem push_clock (w : Bool) (v : Long) : (s.push w v).clock = s.clock := by
  rw [State.push, pushW_clock, setSp_clock]
@[simp] theorem push_stale (w : Bool) (v : Long) : (s.push w v).stale = s.stale := by
  rw [State.push, pushW_stale, setSp_stale]
@[simp] theorem push_params (w : Bool) (v : Long) : (s.push w v).params = s.params := by
  rw [State.push, pushW_params, setSp_params]

@[simp] theorem setReg8_ix (r : Reg8) (v : Byte) : (s.setReg8 r v).ix = s.ix := by cases r <;> rfl
@[simp] theorem setReg8_iy (r : Reg8) (v : Byte) : (s.setReg8 r v).iy = s.iy := by cases r <;> rfl
@[simp] theorem setReg8_pc (r : Reg8) (v : Byte) : (s.setReg8 r v).pc = s.pc := by cases r <;> rfl
@[simp] theorem setReg8_sp (r : Reg8) (v : Byte) : (s.setReg8 r v).sp = s.sp := by cases r <;> rfl
@[simp] theorem setReg8_ireg (r : Reg8) (v : Byte) : (s.setReg8 r v).ireg = s.ireg := by cases r <;> rfl
@[simp] theorem setReg8_r (r : Reg8) (v : Byte) : (s.setReg8 r v).r = s.r := by cases r <;> rfl
@[simp] theorem setReg8_sr (r : Reg8) (v : Byte) : (s.setReg8 r v).sr = s.sr := by cases r <;> rfl
@[simp] theorem setReg8_ief2 (r : Reg8) (v : Byte) : (s.setReg8 r v).ief2 = s.ief2 := by cases r <;> rfl
@[simp] theorem setReg8_ddir (r : Reg8) (v : Byte) : (s.setReg8 r v).ddir = s.ddir := by cases r <;> rfl
@[simp] theorem setReg8_halted (r : Reg8) (v : Byte) : (s.setReg8 r v).halted = s.halted := by cases r <;> rfl
@[simp] theorem setReg8_standby (r : Reg8) (v : Byte) : (s.setReg8 r v).standby = s.standby := by cases r <;> rfl
@[simp] theorem setReg8_nmiPending (r : Reg8) (v : Byte) : (s.setReg8 r v).nmiPending = s.nmiPending := by cases r <;> rfl
@[simp] theorem setReg8_eiShadow (r : Reg8) (v : Byte) : (s.setReg8 r v).eiShadow = s.eiShadow := by cases r <;> rfl
@[simp] theorem setReg8_io (r : Reg8) (v : Byte) : (s.setReg8 r v).io = s.io := by cases r <;> rfl
@[simp] theorem setReg8_mem (r : Reg8) (v : Byte) : (s.setReg8 r v).mem = s.mem := by cases r <;> rfl
@[simp] theorem setReg8_inputs (r : Reg8) (v : Byte) : (s.setReg8 r v).inputs = s.inputs := by cases r <;> rfl
@[simp] theorem setReg8_portIn (r : Reg8) (v : Byte) : (s.setReg8 r v).portIn = s.portIn := by cases r <;> rfl
@[simp] theorem setReg8_busLog (r : Reg8) (v : Byte) : (s.setReg8 r v).busLog = s.busLog := by cases r <;> rfl
@[simp] theorem setReg8_clock (r : Reg8) (v : Byte) : (s.setReg8 r v).clock = s.clock := by cases r <;> rfl
@[simp] theorem setReg8_stale (r : Reg8) (v : Byte) : (s.setReg8 r v).stale = s.stale := by cases r <;> rfl
@[simp] theorem setReg8_written (r : Reg8) (v : Byte) : (s.setReg8 r v).written = s.written := by cases r <;> rfl
@[simp] theorem setReg8_params (r : Reg8) (v : Byte) : (s.setReg8 r v).params = s.params := by cases r <;> rfl

@[simp] theorem setReg8Alt_ix (r : Reg8) (v : Byte) : (s.setReg8Alt r v).ix = s.ix := by cases r <;> rfl
@[simp] theorem setReg8Alt_iy (r : Reg8) (v : Byte) : (s.setReg8Alt r v).iy = s.iy := by cases r <;> rfl
@[simp] theorem setReg8Alt_pc (r : Reg8) (v : Byte) : (s.setReg8Alt r v).pc = s.pc := by cases r <;> rfl
@[simp] theorem setReg8Alt_sp (r : Reg8) (v : Byte) : (s.setReg8Alt r v).sp = s.sp := by cases r <;> rfl
@[simp] theorem setReg8Alt_ireg (r : Reg8) (v : Byte) : (s.setReg8Alt r v).ireg = s.ireg := by cases r <;> rfl
@[simp] theorem setReg8Alt_r (r : Reg8) (v : Byte) : (s.setReg8Alt r v).r = s.r := by cases r <;> rfl
@[simp] theorem setReg8Alt_sr (r : Reg8) (v : Byte) : (s.setReg8Alt r v).sr = s.sr := by cases r <;> rfl
@[simp] theorem setReg8Alt_ief2 (r : Reg8) (v : Byte) : (s.setReg8Alt r v).ief2 = s.ief2 := by cases r <;> rfl
@[simp] theorem setReg8Alt_ddir (r : Reg8) (v : Byte) : (s.setReg8Alt r v).ddir = s.ddir := by cases r <;> rfl
@[simp] theorem setReg8Alt_halted (r : Reg8) (v : Byte) : (s.setReg8Alt r v).halted = s.halted := by cases r <;> rfl
@[simp] theorem setReg8Alt_standby (r : Reg8) (v : Byte) : (s.setReg8Alt r v).standby = s.standby := by cases r <;> rfl
@[simp] theorem setReg8Alt_nmiPending (r : Reg8) (v : Byte) : (s.setReg8Alt r v).nmiPending = s.nmiPending := by cases r <;> rfl
@[simp] theorem setReg8Alt_eiShadow (r : Reg8) (v : Byte) : (s.setReg8Alt r v).eiShadow = s.eiShadow := by cases r <;> rfl
@[simp] theorem setReg8Alt_io (r : Reg8) (v : Byte) : (s.setReg8Alt r v).io = s.io := by cases r <;> rfl
@[simp] theorem setReg8Alt_mem (r : Reg8) (v : Byte) : (s.setReg8Alt r v).mem = s.mem := by cases r <;> rfl
@[simp] theorem setReg8Alt_inputs (r : Reg8) (v : Byte) : (s.setReg8Alt r v).inputs = s.inputs := by cases r <;> rfl
@[simp] theorem setReg8Alt_portIn (r : Reg8) (v : Byte) : (s.setReg8Alt r v).portIn = s.portIn := by cases r <;> rfl
@[simp] theorem setReg8Alt_busLog (r : Reg8) (v : Byte) : (s.setReg8Alt r v).busLog = s.busLog := by cases r <;> rfl
@[simp] theorem setReg8Alt_clock (r : Reg8) (v : Byte) : (s.setReg8Alt r v).clock = s.clock := by cases r <;> rfl
@[simp] theorem setReg8Alt_stale (r : Reg8) (v : Byte) : (s.setReg8Alt r v).stale = s.stale := by cases r <;> rfl
@[simp] theorem setReg8Alt_written (r : Reg8) (v : Byte) : (s.setReg8Alt r v).written = s.written := by cases r <;> rfl
@[simp] theorem setReg8Alt_params (r : Reg8) (v : Byte) : (s.setReg8Alt r v).params = s.params := by cases r <;> rfl

@[simp] theorem setHalf_gp (y : Idx) (h : Half) (v : Byte) : (s.setHalf y h v).gp = s.gp := by cases h <;> rfl
@[simp] theorem setHalf_af (y : Idx) (h : Half) (v : Byte) : (s.setHalf y h v).af = s.af := by cases h <;> rfl
@[simp] theorem setHalf_pc (y : Idx) (h : Half) (v : Byte) : (s.setHalf y h v).pc = s.pc := by cases h <;> rfl
@[simp] theorem setHalf_sp (y : Idx) (h : Half) (v : Byte) : (s.setHalf y h v).sp = s.sp := by cases h <;> rfl
@[simp] theorem setHalf_ireg (y : Idx) (h : Half) (v : Byte) : (s.setHalf y h v).ireg = s.ireg := by cases h <;> rfl
@[simp] theorem setHalf_r (y : Idx) (h : Half) (v : Byte) : (s.setHalf y h v).r = s.r := by cases h <;> rfl
@[simp] theorem setHalf_sr (y : Idx) (h : Half) (v : Byte) : (s.setHalf y h v).sr = s.sr := by cases h <;> rfl
@[simp] theorem setHalf_ief2 (y : Idx) (h : Half) (v : Byte) : (s.setHalf y h v).ief2 = s.ief2 := by cases h <;> rfl
@[simp] theorem setHalf_ddir (y : Idx) (h : Half) (v : Byte) : (s.setHalf y h v).ddir = s.ddir := by cases h <;> rfl
@[simp] theorem setHalf_halted (y : Idx) (h : Half) (v : Byte) : (s.setHalf y h v).halted = s.halted := by cases h <;> rfl
@[simp] theorem setHalf_standby (y : Idx) (h : Half) (v : Byte) : (s.setHalf y h v).standby = s.standby := by cases h <;> rfl
@[simp] theorem setHalf_nmiPending (y : Idx) (h : Half) (v : Byte) : (s.setHalf y h v).nmiPending = s.nmiPending := by cases h <;> rfl
@[simp] theorem setHalf_eiShadow (y : Idx) (h : Half) (v : Byte) : (s.setHalf y h v).eiShadow = s.eiShadow := by cases h <;> rfl
@[simp] theorem setHalf_io (y : Idx) (h : Half) (v : Byte) : (s.setHalf y h v).io = s.io := by cases h <;> rfl
@[simp] theorem setHalf_mem (y : Idx) (h : Half) (v : Byte) : (s.setHalf y h v).mem = s.mem := by cases h <;> rfl
@[simp] theorem setHalf_inputs (y : Idx) (h : Half) (v : Byte) : (s.setHalf y h v).inputs = s.inputs := by cases h <;> rfl
@[simp] theorem setHalf_portIn (y : Idx) (h : Half) (v : Byte) : (s.setHalf y h v).portIn = s.portIn := by cases h <;> rfl
@[simp] theorem setHalf_busLog (y : Idx) (h : Half) (v : Byte) : (s.setHalf y h v).busLog = s.busLog := by cases h <;> rfl
@[simp] theorem setHalf_clock (y : Idx) (h : Half) (v : Byte) : (s.setHalf y h v).clock = s.clock := by cases h <;> rfl
@[simp] theorem setHalf_stale (y : Idx) (h : Half) (v : Byte) : (s.setHalf y h v).stale = s.stale := by cases h <;> rfl
@[simp] theorem setHalf_written (y : Idx) (h : Half) (v : Byte) : (s.setHalf y h v).written = s.written := by cases h <;> rfl
@[simp] theorem setHalf_params (y : Idx) (h : Half) (v : Byte) : (s.setHalf y h v).params = s.params := by cases h <;> rfl

@[simp] theorem setPair4_af (p : Pair4) (v : Long) : (s.setPair4 p v).af = s.af := by cases p <;> rfl
@[simp] theorem setPair4_ix (p : Pair4) (v : Long) : (s.setPair4 p v).ix = s.ix := by cases p <;> rfl
@[simp] theorem setPair4_iy (p : Pair4) (v : Long) : (s.setPair4 p v).iy = s.iy := by cases p <;> rfl
@[simp] theorem setPair4_pc (p : Pair4) (v : Long) : (s.setPair4 p v).pc = s.pc := by cases p <;> rfl
@[simp] theorem setPair4_ireg (p : Pair4) (v : Long) : (s.setPair4 p v).ireg = s.ireg := by cases p <;> rfl
@[simp] theorem setPair4_r (p : Pair4) (v : Long) : (s.setPair4 p v).r = s.r := by cases p <;> rfl
@[simp] theorem setPair4_sr (p : Pair4) (v : Long) : (s.setPair4 p v).sr = s.sr := by cases p <;> rfl
@[simp] theorem setPair4_ief2 (p : Pair4) (v : Long) : (s.setPair4 p v).ief2 = s.ief2 := by cases p <;> rfl
@[simp] theorem setPair4_ddir (p : Pair4) (v : Long) : (s.setPair4 p v).ddir = s.ddir := by cases p <;> rfl
@[simp] theorem setPair4_halted (p : Pair4) (v : Long) : (s.setPair4 p v).halted = s.halted := by cases p <;> rfl
@[simp] theorem setPair4_standby (p : Pair4) (v : Long) : (s.setPair4 p v).standby = s.standby := by cases p <;> rfl
@[simp] theorem setPair4_nmiPending (p : Pair4) (v : Long) : (s.setPair4 p v).nmiPending = s.nmiPending := by cases p <;> rfl
@[simp] theorem setPair4_eiShadow (p : Pair4) (v : Long) : (s.setPair4 p v).eiShadow = s.eiShadow := by cases p <;> rfl
@[simp] theorem setPair4_io (p : Pair4) (v : Long) : (s.setPair4 p v).io = s.io := by cases p <;> rfl
@[simp] theorem setPair4_mem (p : Pair4) (v : Long) : (s.setPair4 p v).mem = s.mem := by cases p <;> rfl
@[simp] theorem setPair4_inputs (p : Pair4) (v : Long) : (s.setPair4 p v).inputs = s.inputs := by cases p <;> rfl
@[simp] theorem setPair4_portIn (p : Pair4) (v : Long) : (s.setPair4 p v).portIn = s.portIn := by cases p <;> rfl
@[simp] theorem setPair4_busLog (p : Pair4) (v : Long) : (s.setPair4 p v).busLog = s.busLog := by cases p <;> rfl
@[simp] theorem setPair4_clock (p : Pair4) (v : Long) : (s.setPair4 p v).clock = s.clock := by cases p <;> rfl
@[simp] theorem setPair4_stale (p : Pair4) (v : Long) : (s.setPair4 p v).stale = s.stale := by cases p <;> rfl
@[simp] theorem setPair4_written (p : Pair4) (v : Long) : (s.setPair4 p v).written = s.written := by cases p <;> rfl
@[simp] theorem setPair4_params (p : Pair4) (v : Long) : (s.setPair4 p v).params = s.params := by cases p <;> rfl

@[simp] theorem wrPair4_af (p : Pair4) (v : Long) : (s.wrPair4 p v).af = s.af := by cases p <;> rfl
@[simp] theorem wrPair4_ix (p : Pair4) (v : Long) : (s.wrPair4 p v).ix = s.ix := by cases p <;> rfl
@[simp] theorem wrPair4_iy (p : Pair4) (v : Long) : (s.wrPair4 p v).iy = s.iy := by cases p <;> rfl
@[simp] theorem wrPair4_pc (p : Pair4) (v : Long) : (s.wrPair4 p v).pc = s.pc := by cases p <;> rfl
@[simp] theorem wrPair4_ireg (p : Pair4) (v : Long) : (s.wrPair4 p v).ireg = s.ireg := by cases p <;> rfl
@[simp] theorem wrPair4_r (p : Pair4) (v : Long) : (s.wrPair4 p v).r = s.r := by cases p <;> rfl
@[simp] theorem wrPair4_sr (p : Pair4) (v : Long) : (s.wrPair4 p v).sr = s.sr := by cases p <;> rfl
@[simp] theorem wrPair4_ief2 (p : Pair4) (v : Long) : (s.wrPair4 p v).ief2 = s.ief2 := by cases p <;> rfl
@[simp] theorem wrPair4_ddir (p : Pair4) (v : Long) : (s.wrPair4 p v).ddir = s.ddir := by cases p <;> rfl
@[simp] theorem wrPair4_halted (p : Pair4) (v : Long) : (s.wrPair4 p v).halted = s.halted := by cases p <;> rfl
@[simp] theorem wrPair4_standby (p : Pair4) (v : Long) : (s.wrPair4 p v).standby = s.standby := by cases p <;> rfl
@[simp] theorem wrPair4_nmiPending (p : Pair4) (v : Long) : (s.wrPair4 p v).nmiPending = s.nmiPending := by cases p <;> rfl
@[simp] theorem wrPair4_eiShadow (p : Pair4) (v : Long) : (s.wrPair4 p v).eiShadow = s.eiShadow := by cases p <;> rfl
@[simp] theorem wrPair4_io (p : Pair4) (v : Long) : (s.wrPair4 p v).io = s.io := by cases p <;> rfl
@[simp] theorem wrPair4_mem (p : Pair4) (v : Long) : (s.wrPair4 p v).mem = s.mem := by cases p <;> rfl
@[simp] theorem wrPair4_inputs (p : Pair4) (v : Long) : (s.wrPair4 p v).inputs = s.inputs := by cases p <;> rfl
@[simp] theorem wrPair4_portIn (p : Pair4) (v : Long) : (s.wrPair4 p v).portIn = s.portIn := by cases p <;> rfl
@[simp] theorem wrPair4_busLog (p : Pair4) (v : Long) : (s.wrPair4 p v).busLog = s.busLog := by cases p <;> rfl
@[simp] theorem wrPair4_clock (p : Pair4) (v : Long) : (s.wrPair4 p v).clock = s.clock := by cases p <;> rfl
@[simp] theorem wrPair4_stale (p : Pair4) (v : Long) : (s.wrPair4 p v).stale = s.stale := by cases p <;> rfl
@[simp] theorem wrPair4_written (p : Pair4) (v : Long) : (s.wrPair4 p v).written = s.written := by cases p <;> rfl
@[simp] theorem wrPair4_params (p : Pair4) (v : Long) : (s.wrPair4 p v).params = s.params := by cases p <;> rfl

@[simp] theorem setWordOp_af (x : WordOp) (w : Word) : (s.setWordOp x w).af = s.af := by cases x <;> rfl
@[simp] theorem setWordOp_pc (x : WordOp) (w : Word) : (s.setWordOp x w).pc = s.pc := by cases x <;> rfl
@[simp] theorem setWordOp_sp (x : WordOp) (w : Word) : (s.setWordOp x w).sp = s.sp := by cases x <;> rfl
@[simp] theorem setWordOp_ireg (x : WordOp) (w : Word) : (s.setWordOp x w).ireg = s.ireg := by cases x <;> rfl
@[simp] theorem setWordOp_r (x : WordOp) (w : Word) : (s.setWordOp x w).r = s.r := by cases x <;> rfl
@[simp] theorem setWordOp_sr (x : WordOp) (w : Word) : (s.setWordOp x w).sr = s.sr := by cases x <;> rfl
@[simp] theorem setWordOp_ief2 (x : WordOp) (w : Word) : (s.setWordOp x w).ief2 = s.ief2 := by cases x <;> rfl
@[simp] theorem setWordOp_ddir (x : WordOp) (w : Word) : (s.setWordOp x w).ddir = s.ddir := by cases x <;> rfl
@[simp] theorem setWordOp_halted (x : WordOp) (w : Word) : (s.setWordOp x w).halted = s.halted := by cases x <;> rfl
@[simp] theorem setWordOp_standby (x : WordOp) (w : Word) : (s.setWordOp x w).standby = s.standby := by cases x <;> rfl
@[simp] theorem setWordOp_nmiPending (x : WordOp) (w : Word) : (s.setWordOp x w).nmiPending = s.nmiPending := by cases x <;> rfl
@[simp] theorem setWordOp_eiShadow (x : WordOp) (w : Word) : (s.setWordOp x w).eiShadow = s.eiShadow := by cases x <;> rfl
@[simp] theorem setWordOp_io (x : WordOp) (w : Word) : (s.setWordOp x w).io = s.io := by cases x <;> rfl
@[simp] theorem setWordOp_inputs (x : WordOp) (w : Word) : (s.setWordOp x w).inputs = s.inputs := by cases x <;> rfl
@[simp] theorem setWordOp_portIn (x : WordOp) (w : Word) : (s.setWordOp x w).portIn = s.portIn := by cases x <;> rfl
@[simp] theorem setWordOp_clock (x : WordOp) (w : Word) : (s.setWordOp x w).clock = s.clock := by cases x <;> rfl
@[simp] theorem setWordOp_stale (x : WordOp) (w : Word) : (s.setWordOp x w).stale = s.stale := by cases x <;> rfl
@[simp] theorem setWordOp_params (x : WordOp) (w : Word) : (s.setWordOp x w).params = s.params := by cases x <;> rfl

@[simp] theorem repeatIf_gp (b : Bool) (n : Nat) : (s.repeatIf b n).gp = s.gp := by cases b <;> rfl
@[simp] theorem repeatIf_af (b : Bool) (n : Nat) : (s.repeatIf b n).af = s.af := by cases b <;> rfl
@[simp] theorem repeatIf_ix (b : Bool) (n : Nat) : (s.repeatIf b n).ix = s.ix := by cases b <;> rfl
@[simp] theorem repeatIf_iy (b : Bool) (n : Nat) : (s.repeatIf b n).iy = s.iy := by cases b <;> rfl
@[simp] theorem repeatIf_sp (b : Bool) (n : Nat) : (s.repeatIf b n).sp = s.sp := by cases b <;> rfl
@[simp] theorem repeatIf_ireg (b : Bool) (n : Nat) : (s.repeatIf b n).ireg = s.ireg := by cases b <;> rfl
@[simp] theorem repeatIf_r (b : Bool) (n : Nat) : (s.repeatIf b n).r = s.r := by cases b <;> rfl
@[simp] theorem repeatIf_sr (b : Bool) (n : Nat) : (s.repeatIf b n).sr = s.sr := by cases b <;> rfl
@[simp] theorem repeatIf_ief2 (b : Bool) (n : Nat) : (s.repeatIf b n).ief2 = s.ief2 := by cases b <;> rfl
@[simp] theorem repeatIf_ddir (b : Bool) (n : Nat) : (s.repeatIf b n).ddir = s.ddir := by cases b <;> rfl
@[simp] theorem repeatIf_halted (b : Bool) (n : Nat) : (s.repeatIf b n).halted = s.halted := by cases b <;> rfl
@[simp] theorem repeatIf_standby (b : Bool) (n : Nat) : (s.repeatIf b n).standby = s.standby := by cases b <;> rfl
@[simp] theorem repeatIf_nmiPending (b : Bool) (n : Nat) : (s.repeatIf b n).nmiPending = s.nmiPending := by cases b <;> rfl
@[simp] theorem repeatIf_eiShadow (b : Bool) (n : Nat) : (s.repeatIf b n).eiShadow = s.eiShadow := by cases b <;> rfl
@[simp] theorem repeatIf_io (b : Bool) (n : Nat) : (s.repeatIf b n).io = s.io := by cases b <;> rfl
@[simp] theorem repeatIf_mem (b : Bool) (n : Nat) : (s.repeatIf b n).mem = s.mem := by cases b <;> rfl
@[simp] theorem repeatIf_inputs (b : Bool) (n : Nat) : (s.repeatIf b n).inputs = s.inputs := by cases b <;> rfl
@[simp] theorem repeatIf_portIn (b : Bool) (n : Nat) : (s.repeatIf b n).portIn = s.portIn := by cases b <;> rfl
@[simp] theorem repeatIf_busLog (b : Bool) (n : Nat) : (s.repeatIf b n).busLog = s.busLog := by cases b <;> rfl
@[simp] theorem repeatIf_clock (b : Bool) (n : Nat) : (s.repeatIf b n).clock = s.clock := by cases b <;> rfl
@[simp] theorem repeatIf_stale (b : Bool) (n : Nat) : (s.repeatIf b n).stale = s.stale := by cases b <;> rfl
@[simp] theorem repeatIf_written (b : Bool) (n : Nat) : (s.repeatIf b n).written = s.written := by cases b <;> rfl
@[simp] theorem repeatIf_params (b : Bool) (n : Nat) : (s.repeatIf b n).params = s.params := by cases b <;> rfl

@[simp] theorem storeW_gp (a v : Long) : (s.storeW a v).gp = s.gp := by exact writeW_gp s s.lwEff a v
@[simp] theorem storeW_af (a v : Long) : (s.storeW a v).af = s.af := by exact writeW_af s s.lwEff a v
@[simp] theorem storeW_ix (a v : Long) : (s.storeW a v).ix = s.ix := by exact writeW_ix s s.lwEff a v
@[simp] theorem storeW_iy (a v : Long) : (s.storeW a v).iy = s.iy := by exact writeW_iy s s.lwEff a v
@[simp] theorem storeW_pc (a v : Long) : (s.storeW a v).pc = s.pc := by exact writeW_pc s s.lwEff a v
@[simp] theorem storeW_sp (a v : Long) : (s.storeW a v).sp = s.sp := by exact writeW_sp s s.lwEff a v
@[simp] theorem storeW_ireg (a v : Long) : (s.storeW a v).ireg = s.ireg := by exact writeW_ireg s s.lwEff a v
@[simp] theorem storeW_r (a v : Long) : (s.storeW a v).r = s.r := by exact writeW_r s s.lwEff a v
@[simp] theorem storeW_sr (a v : Long) : (s.storeW a v).sr = s.sr := by exact writeW_sr s s.lwEff a v
@[simp] theorem storeW_ief2 (a v : Long) : (s.storeW a v).ief2 = s.ief2 := by exact writeW_ief2 s s.lwEff a v
@[simp] theorem storeW_ddir (a v : Long) : (s.storeW a v).ddir = s.ddir := by exact writeW_ddir s s.lwEff a v
@[simp] theorem storeW_halted (a v : Long) : (s.storeW a v).halted = s.halted := by exact writeW_halted s s.lwEff a v
@[simp] theorem storeW_standby (a v : Long) : (s.storeW a v).standby = s.standby := by exact writeW_standby s s.lwEff a v
@[simp] theorem storeW_nmiPending (a v : Long) : (s.storeW a v).nmiPending = s.nmiPending := by exact writeW_nmiPending s s.lwEff a v
@[simp] theorem storeW_eiShadow (a v : Long) : (s.storeW a v).eiShadow = s.eiShadow := by exact writeW_eiShadow s s.lwEff a v
@[simp] theorem storeW_io (a v : Long) : (s.storeW a v).io = s.io := by exact writeW_io s s.lwEff a v
@[simp] theorem storeW_inputs (a v : Long) : (s.storeW a v).inputs = s.inputs := by exact writeW_inputs s s.lwEff a v
@[simp] theorem storeW_portIn (a v : Long) : (s.storeW a v).portIn = s.portIn := by exact writeW_portIn s s.lwEff a v
@[simp] theorem storeW_clock (a v : Long) : (s.storeW a v).clock = s.clock := by exact writeW_clock s s.lwEff a v
@[simp] theorem storeW_stale (a v : Long) : (s.storeW a v).stale = s.stale := by exact writeW_stale s s.lwEff a v
@[simp] theorem storeW_params (a v : Long) : (s.storeW a v).params = s.params := by exact writeW_params s s.lwEff a v

end Sys2Proof.Machine
end

