-- ==== Sys2Proof/Laws/Look.lean ====
section
/-! SUPPORT. What each shared operation does to every register and to every byte of memory: one lemma per operation, which the
proofs cite instead of unfolding it. -/

namespace Sys2Proof.Machine

/-! ## Banks and sets -/

theorem quad_get_put {α : Type} (q : Quad α) (k j : BitVec 2) (v : α) :
    (q.put k v).get j = if j = k then v else q.get j := by
  unfold Quad.get Quad.put
  by_cases h : j = k
  · subst h
    have : j = 0 ∨ j = 1 ∨ j = 2 ∨ j = 3 := by revert j; decide
    rcases this with rfl | rfl | rfl | rfl <;> simp
  · rw [if_neg h]
    have hj : j = 0 ∨ j = 1 ∨ j = 2 ∨ j = 3 := by clear h; revert j; decide
    rcases hj with rfl | rfl | rfl | rfl <;> simp <;> exact fun e => absurd e.symm h

theorem duo_get_put {α : Type} (d : Duo α) (a b : Bool) (v : α) :
    (d.put a v).get b = if b = a then v else d.get b := by
  cases a <;> cases b <;> rfl

@[simp] theorem quad_getIn_putIn {α : Type} (q : Quad (Duo α)) (k j : BitVec 2) (a b : Bool) (v : α) :
    (q.putIn k a v).getIn j b = if j = k ∧ b = a then v else q.getIn j b := by
  unfold Quad.getIn Quad.putIn
  rw [quad_get_put]
  by_cases h : j = k
  · subst h
    simp [duo_get_put]
  · simp [h]

@[simp] theorem gpSet_get_put (g : GpSet) (p q : Pair) (v : Long) : (g.put p v).get q = if q = p then v else g.get q := by
  cases p <;> cases q <;> simp [GpSet.get, GpSet.put]

/-! ## Registers -/

variable (s : State)

theorem pair_look (p : Pair) : s.pair p = s.look (s.locPair p) := by
  simp [State.pair, State.gpSet, State.look, State.locPair]

theorem pairAlt_look (p : Pair) : s.pairAlt p = s.look (s.locPairAlt p) := by
  simp [State.pairAlt, State.gpSet, State.look, State.locPairAlt]

theorem a_look : zext32 s.a = s.look s.locA := by
  simp [State.a, State.afSet, State.look, State.locA]

theorem aAlt_look : zext32 s.aAlt = s.look s.locAAlt := by
  simp [State.aAlt, State.afSet, State.look, State.locAAlt]

theorem f_look : zext32 s.f = s.look s.locF := by
  simp [State.f, State.afSet, State.look, State.locF]

theorem idx_look (y : Idx) : s.idx y = s.look (s.locIdx y) := by
  cases y <;> simp [State.idx, State.idxIn, State.look, State.locIdx, State.idxBank, State.idxSet]

theorem idxAlt_look (y : Idx) : s.idxAlt y = s.look (s.locIdxAlt y) := by
  cases y <;> simp [State.idxAlt, State.idxIn, State.look, State.locIdxAlt, State.idxBank, State.idxSet]

@[simp] theorem look_setPair (p : Pair) (v : Long) (l : Loc) :
    (s.setPair p v).look l = if l = s.locPair p then v else s.look l := by
  cases l with
  | gp k alt q =>
    simp only [State.setPair, State.look, setGpSet_gp, State.gpSet, Bool.xor_false, quad_getIn_putIn, State.locPair, Loc.gp.injEq]
    by_cases h : k = s.mainBank ∧ alt = s.alt
    · obtain ⟨rfl, rfl⟩ := h
      simp
    · rw [if_neg h, if_neg (fun e => h ⟨e.1, e.2.1⟩)]
  | idx k alt y => cases y <;> rfl
  | _ => rfl

@[simp] theorem look_setPairAlt (p : Pair) (v : Long) (l : Loc) :
    (s.setPairAlt p v).look l = if l = s.locPairAlt p then v else s.look l := by
  cases l with
  | gp k alt q =>
    simp only [State.setPairAlt, State.look, setGpSet_gp, State.gpSet, Bool.xor_true, quad_getIn_putIn, State.locPairAlt,
      Loc.gp.injEq]
    by_cases h : k = s.mainBank ∧ alt = !s.alt
    · obtain ⟨rfl, rfl⟩ := h
      simp
    · rw [if_neg h, if_neg (fun e => h ⟨e.1, e.2.1⟩)]
  | idx k alt y => cases y <;> rfl
  | _ => rfl

@[simp] theorem look_setA (v : Byte) (l : Loc) : (s.setA v).look l = if l = s.locA then zext32 v else s.look l := by
  cases l with
  | a k alt =>
    by_cases h : k = s.mainBank ∧ alt = s.afp
    · obtain ⟨rfl, rfl⟩ := h
      simp [State.setA, State.look, State.locA, State.f, State.afSet]
    · simp [State.setA, State.look, State.locA, h]
  | f k alt =>
    by_cases h : k = s.mainBank ∧ alt = s.afp
    · obtain ⟨rfl, rfl⟩ := h
      simp [State.setA, State.look, State.locA, State.f, State.afSet]
    · simp [State.setA, State.look, State.locA, h]
  | idx k alt y => cases y <;> rfl
  | _ => rfl

@[simp] theorem look_setF (v : Byte) (l : Loc) : (s.setF v).look l = if l = s.locF then zext32 v else s.look l := by
  cases l with
  | a k alt =>
    by_cases h : k = s.mainBank ∧ alt = s.afp
    · obtain ⟨rfl, rfl⟩ := h
      simp [State.setF, State.look, State.locF, State.a, State.afSet]
    · simp [State.setF, State.look, State.locF, h]
  | f k alt =>
    by_cases h : k = s.mainBank ∧ alt = s.afp
    · obtain ⟨rfl, rfl⟩ := h
      simp [State.setF, State.look, State.locF, State.a, State.afSet]
    · simp [State.setF, State.look, State.locF, h]
  | idx k alt y => cases y <;> rfl
  | _ => rfl

@[simp] theorem look_setAAlt (v : Byte) (l : Loc) : (s.setAAlt v).look l = if l = s.locAAlt then zext32 v else s.look l := by
  cases l with
  | a k alt =>
    by_cases h : k = s.mainBank ∧ alt = !s.afp
    · obtain ⟨rfl, rfl⟩ := h
      simp [State.setAAlt, State.look, State.locAAlt, State.afSet]
    · simp [State.setAAlt, State.look, State.locAAlt, h]
  | f k alt =>
    by_cases h : k = s.mainBank ∧ alt = !s.afp
    · obtain ⟨rfl, rfl⟩ := h
      simp [State.setAAlt, State.look, State.locAAlt, State.afSet]
    · simp [State.setAAlt, State.look, State.locAAlt, h]
  | idx k alt y => cases y <;> rfl
  | _ => rfl

@[simp] theorem look_setIdx (y : Idx) (v : Long) (l : Loc) :
    (s.setIdx y v).look l = if l = s.locIdx y then v else s.look l := by
  cases l with
  | idx k alt z =>
    cases y <;> cases z <;>
      simp [State.setIdx, State.look, State.locIdx, State.idxBank, State.idxSet]
  | _ => rfl

@[simp] theorem look_setIdxAlt (y : Idx) (v : Long) (l : Loc) :
    (s.setIdxAlt y v).look l = if l = s.locIdxAlt y then v else s.look l := by
  cases l with
  | idx k alt z =>
    cases y <;> cases z <;>
      simp [State.setIdxAlt, State.look, State.locIdxAlt, State.idxBank, State.idxSet]
  | _ => rfl

@[simp] theorem look_setPc (v : Long) (l : Loc) : (s.setPc v).look l = if l = .pc then ringed s.xm v else s.look l := by
  cases l with
  | idx k alt y => cases y <;> rfl
  | _ => rfl

@[simp] theorem look_setSp (v : Long) (l : Loc) : (s.setSp v).look l = if l = .sp then ringed s.xm v else s.look l := by
  cases l with
  | idx k alt y => cases y <;> rfl
  | _ => rfl

@[simp] theorem look_setIreg (v : Long) (l : Loc) : (s.setIreg v).look l = if l = .ireg then v else s.look l := by
  cases l with
  | idx k alt y => cases y <;> rfl
  | _ => rfl

@[simp] theorem look_setR (v : Byte) (l : Loc) : (s.setR v).look l = if l = .r then zext32 v else s.look l := by
  cases l with
  | idx k alt y => cases y <;> rfl
  | _ => rfl

@[simp] theorem look_srUpdate (m v : Long) (l : Loc) : (s.srUpdate m v).look l = if l = .sr then maskedBits m s.sr v else s.look l := by
  cases l with
  | idx k alt y => cases y <;> rfl
  | _ => rfl

@[simp] theorem look_setIef2 (b : Bool) (l : Loc) : (s.setIef2 b).look l = if l = .ief2 then zext32 (bit1 b) else s.look l := by
  cases l with
  | idx k alt y => cases y <;> rfl
  | _ => rfl

@[simp] theorem look_setEiShadow (b : Bool) (l : Loc) : (s.setEiShadow b).look l = if l = .eiShadow then zext32 (bit1 b) else s.look l := by
  cases l with
  | idx k alt y => cases y <;> rfl
  | _ => rfl

@[simp] theorem look_setHalted (b : Bool) (l : Loc) : (s.setHalted b).look l = if l = .halted then zext32 (bit1 b) else s.look l := by
  cases l with
  | idx k alt y => cases y <;> rfl
  | _ => rfl

@[simp] theorem look_setStandby (b : Bool) (l : Loc) : (s.setStandby b).look l = if l = .standby then zext32 (bit1 b) else s.look l := by
  cases l with
  | idx k alt y => cases y <;> rfl
  | _ => rfl

@[simp] theorem look_setDdir (d : Option Ddir) (l : Loc) : (s.setDdir d).look l = s.look l := by
  cases l with
  | idx k alt y => cases y <;> rfl
  | _ => rfl

@[simp] theorem look_writeByte (a : Long) (v : Byte) (l : Loc) : (s.writeByte a v).look l = s.look l := by
  cases l with
  | idx k alt y => cases y <;> rfl
  | _ => rfl

@[simp] theorem look_afterPortRead (w : Bool) (a : Long) (l : Loc) : (s.afterPortRead w a).look l = s.look l := by
  cases l with
  | idx k alt y => cases y <;> rfl
  | _ => rfl

@[simp] theorem look_portWrite (w : Bool) (a : Long) (v : Word) (l : Loc) : (s.portWrite w a v).look l = s.look l := by
  cases l with
  | idx k alt y => cases y <;> rfl
  | _ => rfl

@[simp] theorem look_tick (l : Loc) : s.tick.look l = s.look l := by
  cases l with
  | idx k alt y => cases y <;> rfl
  | _ => rfl

theorem ioGet_put (io : IntIo) (a b v : Byte) :
    ((io.put a v).get b).getD 0 = if b = a ∧ (io.get a).isSome then v &&& ioMask a else (io.get b).getD 0 := by
  unfold IntIo.put
  split
  case h_27 => simp_all [IntIo.get]
  all_goals
    split
    · rename_i h
      rw [h.1]
      rfl
    · rename_i h
      unfold IntIo.get
      split <;> first
        | rfl
        | exact absurd ⟨rfl, rfl⟩ h

/-- R109: a write to the internal I/O space reaches the register at its address, if there is one, and nothing else. -/
@[simp] theorem look_ioWrite (a v : Byte) (l : Loc) :
    (s.ioWrite a v).look l =
      if l = .io a ∧ (s.io.get a).isSome then zext32 (v &&& ioMask a) else s.look l := by
  cases l with
  | io b =>
    simp only [State.look, ioWrite_io, ioGet_put, Loc.io.injEq]
    split <;> rfl
  | idx k alt y => cases y <;> simp [State.look]
  | _ => simp [State.look]

@[simp] theorem look_writeWord (a : Long) (w : Word) (l : Loc) : (s.writeWord a w).look l = s.look l := by
  simp [State.writeWord]

@[simp] theorem look_writeW (w : Bool) (a v : Long) (l : Loc) : (s.writeW w a v).look l = s.look l := by
  cases w <;> simp [State.writeW, State.writeLong]

@[simp] theorem look_pushW (w : Bool) (a v : Long) (l : Loc) : (s.pushW w a v).look l = s.look l := by
  cases w <;> simp [State.pushW, State.pushLong, State.pushWord]

@[simp] theorem look_storeW (a v : Long) (l : Loc) : (s.storeW a v).look l = s.look l := by
  simp [State.storeW]

@[simp] theorem look_push (w : Bool) (v : Long) (l : Loc) :
    (s.push w v).look l = if l = .sp then ringed s.xm (addrAdd s.xm s.sp (-bytesOf w)) else s.look l := by
  simp [State.push]

@[simp] theorem look_dropped (w : Bool) (l : Loc) :
    (s.dropped w).look l = if l = .sp then ringed s.xm (addrAdd s.xm s.sp (bytesOf w)) else s.look l := by
  simp [State.dropped]

@[simp] theorem advance_pc (n : Nat) : (s.advance n).pc = ringed s.xm (s.pc + BitVec.ofNat 32 n) := rfl

@[simp] theorem look_advance (n : Nat) (l : Loc) :
    (s.advance n).look l = if l = .pc then ringed s.xm (s.pc + BitVec.ofNat 32 n) else s.look l := by
  simp [State.advance]

@[simp] theorem repeatIf_pc (b : Bool) (n : Nat) :
    (s.repeatIf b n).pc = if b then s.pc else ringed s.xm (s.pc + BitVec.ofNat 32 n) := by
  cases b <;> rfl

@[simp] theorem look_repeatIf (b : Bool) (n : Nat) (l : Loc) :
    (s.repeatIf b n).look l =
      if l = .pc ∧ b = false then ringed s.xm (s.pc + BitVec.ofNat 32 n) else s.look l := by
  cases b <;> simp [State.repeatIf]

@[simp] theorem look_srBits (m : Long) (b : Bool) (l : Loc) :
    (s.srBits m b).look l = if l = .sr then maskedBits m s.sr (if b then m else 0) else s.look l := by
  rw [State.srBits, look_srUpdate]

@[simp] theorem look_srToggle (m : Long) (l : Loc) :
    (s.srToggle m).look l = if l = .sr then maskedBits m s.sr (~~~s.sr) else s.look l := by
  rw [State.srToggle, look_srUpdate]

@[simp] theorem look_srWrite (m v : Long) (l : Loc) :
    (s.srWrite m v).look l = if l = .sr then maskedBits (m &&& srWritable) s.sr v else s.look l := by
  rw [State.srWrite, look_srUpdate]

@[simp] theorem look_setFlags (fl : Flags) (l : Loc) :
    (s.setFlags fl).look l = if l = s.locF then zext32 (packFlags fl s.draws) else s.look l := by
  simp [State.setFlags]

@[simp] theorem look_setPair4 (p : Pair4) (v : Long) (l : Loc) :
    (s.setPair4 p v).look l = if l = s.locPair4 p then (if p = .sp then ringed s.xm v else v) else s.look l := by
  cases p <;> simp [State.setPair4, State.locPair4]

@[simp] theorem look_setReg8 (r : Reg8) (v : Byte) (l : Loc) :
    (s.setReg8 r v).look l = if l = s.locReg8 r then withByte r (s.pair (pairOf r)) v else s.look l := by
  cases r <;> simp [State.setReg8, State.locReg8, pairOf, withByte]

@[simp] theorem look_setHalf (y : Idx) (h : Half) (v : Byte) (l : Loc) :
    (s.setHalf y h v).look l =
      if l = s.locIdx y then (match h with | .u => withHi8 (s.idx y) v | .l => withLo8 (s.idx y) v) else s.look l := by
  cases h <;> simp [State.setHalf]

/-! ## The flags -/

@[simp] theorem flagsOf_pack (fl : Flags) (x : Byte) : flagsOf (packFlags fl x) = fl := by
  obtain ⟨a, b, c, d, e, f⟩ := fl
  unfold packFlags
  generalize x.extractLsb' 5 1 = p
  generalize x.extractLsb' 3 1 = q
  revert a b c d e f p q
  decide

/-- A computed write of F leaves exactly the flags it was given. -/
@[simp] theorem flags_setFlags (fl : Flags) : (s.setFlags fl).flags = fl := by
  have h : (s.setFlags fl).f = packFlags fl s.draws := by
    simp [State.setFlags, State.setF, State.f, State.afSet, State.mainBank, State.afp]
  rw [State.flags, h, flagsOf_pack]

/-! ## Memory -/

@[simp] theorem readByte_setPair (p : Pair) (v : Long) (x : Long) : (s.setPair p v).readByte x = s.readByte x := rfl

@[simp] theorem readByte_setPairAlt (p : Pair) (v : Long) (x : Long) : (s.setPairAlt p v).readByte x = s.readByte x := rfl

@[simp] theorem readByte_setA (v : Byte) (x : Long) : (s.setA v).readByte x = s.readByte x := rfl

@[simp] theorem readByte_setAAlt (v : Byte) (x : Long) : (s.setAAlt v).readByte x = s.readByte x := rfl

@[simp] theorem readByte_setF (v : Byte) (x : Long) : (s.setF v).readByte x = s.readByte x := rfl

@[simp] theorem readByte_setFlags (fl : Flags) (x : Long) : (s.setFlags fl).readByte x = s.readByte x := rfl

@[simp] theorem readByte_setIdx (y : Idx) (v : Long) (x : Long) : (s.setIdx y v).readByte x = s.readByte x := rfl

@[simp] theorem readByte_setIdxAlt (y : Idx) (v : Long) (x : Long) : (s.setIdxAlt y v).readByte x = s.readByte x := rfl

@[simp] theorem readByte_setPc (v : Long) (x : Long) : (s.setPc v).readByte x = s.readByte x := rfl

@[simp] theorem readByte_setSp (v : Long) (x : Long) : (s.setSp v).readByte x = s.readByte x := rfl

@[simp] theorem readByte_advance (n : Nat) (x : Long) : (s.advance n).readByte x = s.readByte x := rfl

@[simp] theorem readByte_setIreg (v : Long) (x : Long) : (s.setIreg v).readByte x = s.readByte x := rfl

@[simp] theorem readByte_setR (v : Byte) (x : Long) : (s.setR v).readByte x = s.readByte x := rfl

@[simp] theorem readByte_srUpdate (m v : Long) (x : Long) : (s.srUpdate m v).readByte x = s.readByte x := rfl

@[simp] theorem readByte_srBits (m : Long) (b : Bool) (x : Long) : (s.srBits m b).readByte x = s.readByte x := rfl

@[simp] theorem readByte_srToggle (m : Long) (x : Long) : (s.srToggle m).readByte x = s.readByte x := rfl

@[simp] theorem readByte_srWrite (m v : Long) (x : Long) : (s.srWrite m v).readByte x = s.readByte x := rfl

@[simp] theorem readByte_setIef2 (b : Bool) (x : Long) : (s.setIef2 b).readByte x = s.readByte x := rfl

@[simp] theorem readByte_setEiShadow (b : Bool) (x : Long) : (s.setEiShadow b).readByte x = s.readByte x := rfl

@[simp] theorem readByte_setDdir (d : Option Ddir) (x : Long) : (s.setDdir d).readByte x = s.readByte x := rfl

@[simp] theorem readByte_setHalted (b : Bool) (x : Long) : (s.setHalted b).readByte x = s.readByte x := rfl

@[simp] theorem readByte_setStandby (b : Bool) (x : Long) : (s.setStandby b).readByte x = s.readByte x := rfl

@[simp] theorem readByte_afterPortRead (w : Bool) (a : Long) (x : Long) : (s.afterPortRead w a).readByte x = s.readByte x := rfl

@[simp] theorem readByte_portWrite (w : Bool) (a : Long) (v : Word) (x : Long) : (s.portWrite w a v).readByte x = s.readByte x := rfl

@[simp] theorem readByte_ioWrite (a v : Byte) (x : Long) : (s.ioWrite a v).readByte x = s.readByte x := rfl

@[simp] theorem readByte_dropped (w : Bool) (x : Long) : (s.dropped w).readByte x = s.readByte x := rfl

@[simp] theorem readByte_setPair4 (p : Pair4) (v : Long) (x : Long) : (s.setPair4 p v).readByte x = s.readByte x := by
  cases p <;> rfl

@[simp] theorem readByte_repeatIf (b : Bool) (n : Nat) (x : Long) : (s.repeatIf b n).readByte x = s.readByte x := by
  cases b <;> rfl

@[simp] theorem readByte_setReg8 (r : Reg8) (v : Byte) (x : Long) : (s.setReg8 r v).readByte x = s.readByte x := by
  cases r <;> rfl

@[simp] theorem readByte_setReg8Alt (r : Reg8) (v : Byte) (x : Long) : (s.setReg8Alt r v).readByte x = s.readByte x := by
  cases r <;> rfl

@[simp] theorem readByte_setHalf (y : Idx) (h : Half) (v : Byte) (x : Long) : (s.setHalf y h v).readByte x = s.readByte x := by
  cases h <;> rfl

/-- A byte read after a byte write: the datum at the address written, if that is RAM; elsewhere what it was. -/
theorem readByte_writeByte (a : Long) (v : Byte) (x : Long) :
    (s.writeByte a v).readByte x = if x = a ∧ s.kind a = .ram then v else s.readByte x := by
  have hk : (s.writeByte a v).kind x = s.kind x := rfl
  unfold State.readByte State.byteOr
  rw [hk, writeByte_clock, writeByte_mem]
  by_cases h : s.kind a = .ram
  · rw [if_pos h]
    by_cases hx : x = a
    · subst hx
      simp [h, memory_read_write]
    · have hn : x.toNat ≠ a.toNat := fun e => hx (BitVec.eq_of_toNat_eq e)
      simp [hx, hn, memory_read_write]
  · simp [h]

/-- A byte read after a word write. -/
theorem readByte_writeWord (a : Long) (w : Word) (x : Long) :
    (s.writeWord a w).readByte x =
      if x = a + 1 ∧ s.kind (a + 1) = .ram then wordHi w
      else if x = a ∧ s.kind a = .ram then wordLo w else s.readByte x := by
  have hk : (s.writeByte a (wordLo w)).kind (a + 1) = s.kind (a + 1) := rfl
  rw [State.writeWord, readByte_writeByte, readByte_writeByte, hk]

/-- What a write in the data format in force leaves in memory, byte by byte. -/
theorem readByte_writeW (w : Bool) (a v x : Long) :
    (s.writeW w a v).readByte x =
      if w = true ∧ x = a + 3 ∧ s.kind (a + 3) = .ram then v.extractLsb' 24 8
      else if w = true ∧ x = a + 2 ∧ s.kind (a + 2) = .ram then v.extractLsb' 16 8
      else if x = a + 1 ∧ s.kind (a + 1) = .ram then v.extractLsb' 8 8
      else if x = a ∧ s.kind a = .ram then v.extractLsb' 0 8 else s.readByte x := by
  have h0 : wordLo (lo16 v) = v.extractLsb' 0 8 := by ext i hi; simp [wordLo, lo16]
  have h1 : wordHi (lo16 v) = v.extractLsb' 8 8 := by ext i hi; simp [wordHi, lo16]
  have h2 : wordLo (ext16 v) = v.extractLsb' 16 8 := by ext i hi; simp [wordLo, ext16]; omega
  have h3 : wordHi (ext16 v) = v.extractLsb' 24 8 := by
    ext i hi; simp [wordHi, ext16, ← Nat.add_assoc]; omega
  have hk : ∀ y, (s.writeWord a (lo16 v)).kind y = s.kind y := fun _ => rfl
  have hr : a + 2#32 + 1#32 = a + 3#32 := by rw [BitVec.add_assoc]; rfl
  cases w
  · simp [State.writeW, readByte_writeWord, h0, h1]
  · simp [State.writeW, State.writeLong, readByte_writeWord, h0, h1, h2, h3, hk, hr]

/-- A byte read after a word of a push. -/
theorem readByte_pushWord (a : Long) (w : Word) (x : Long) : (s.pushWord a w).readByte x = (s.writeWord a w).readByte x := by
  have hk : (s.writeByte (a + 1) (wordHi w)).kind a = s.kind a := rfl
  rw [readByte_writeWord, State.pushWord, readByte_writeByte, readByte_writeByte, hk]
  by_cases h : x = a
  · subst h
    simp
  · simp [h]

/-- R16: the bytes of a push leave the image of a store. -/
theorem readByte_pushW (w : Bool) (a v x : Long) : (s.pushW w a v).readByte x = (s.writeW w a v).readByte x := by
  cases w
  · exact readByte_pushWord s a _ x
  · have hk : ∀ y, (s.pushWord (a + 2) (ext16 v)).kind y = s.kind y := fun _ => rfl
    have hl : ∀ y, (s.writeWord a (lo16 v)).kind y = s.kind y := fun _ => rfl
    have d : ∀ i j : Long, i ≠ j → a + i ≠ a + j := fun i j h e => h (by simpa using congrArg (· - a) e)
    have d2 := d 2 0 (by decide)
    have d3 := d 2 1 (by decide)
    have d4 := d 3 0 (by decide)
    have d5 := d 3 1 (by decide)
    have hr : a + 2 + 1 = a + 3 := by rw [BitVec.add_assoc]; rfl
    rw [show a + 0 = a from BitVec.add_zero a] at d2 d4
    show (s.pushLong a v).readByte x = (s.writeLong a v).readByte x
    rw [State.pushLong, State.writeLong, readByte_pushWord, readByte_writeWord, readByte_pushWord, readByte_writeWord,
      readByte_writeWord, readByte_writeWord, hk, hk, hl, hl, hr]
    by_cases h2 : x = a + 2
    · subst h2
      rw [if_neg (fun e => d3 e.1), if_neg (fun e => d2 e.1)]
      split
      · rfl
      · split
        · rfl
        · rw [if_neg (fun e => d3 e.1), if_neg (fun e => d2 e.1)]
    · by_cases h3 : x = a + 3
      · subst h3
        rw [if_neg (fun e => d5 e.1), if_neg (fun e => d4 e.1)]
        split
        · rfl
        · split
          · rfl
          · rw [if_neg (fun e => d5 e.1), if_neg (fun e => d4 e.1)]
      · simp only [h2, h3, false_and, if_false]

/-- R16: the accesses of a push to a device, newest first: the byte at the lowest address was written last. -/
theorem busLog_push_device (w : Bool) (a v : Long)
    (h : ∀ k, k < (if w then 4 else 2) → s.kind (a + BitVec.ofNat 32 k) = .device) :
    (s.pushW w a v).busLog =
      (List.range (if w then 4 else 2)).map (fun k => .deviceWrite (a + BitVec.ofNat 32 k) (v.extractLsb' (8 * k) 8)) ++
        s.busLog := by
  have h0' : wordLo (lo16 v) = v.extractLsb' 0 8 := by ext i hi; simp [wordLo, lo16]
  have h1' : wordHi (lo16 v) = v.extractLsb' 8 8 := by ext i hi; simp [wordHi, lo16]
  have h2' : wordLo (ext16 v) = v.extractLsb' 16 8 := by ext i hi; simp [wordLo, ext16]; omega
  have h3' : wordHi (ext16 v) = v.extractLsb' 24 8 := by
    ext i hi; simp [wordHi, ext16, ← Nat.add_assoc]; omega
  have h0 := h 0 (by split <;> omega)
  have h1 := h 1 (by split <;> omega)
  have hk : ∀ (t : State) (b : Long) (u : Byte) (y : Long), (t.writeByte b u).kind y = t.kind y := fun _ _ _ _ => rfl
  simp only [BitVec.add_zero] at h0
  cases w
  · simp [State.pushW, State.pushWord, hk, h0, h1, h0', h1', List.range_succ]
  · have h2 := h 2 (by simp)
    have h3 := h 3 (by simp)
    have hr : a + 2#32 + 1#32 = a + 3#32 := by rw [BitVec.add_assoc]; rfl
    simp [State.pushW, State.pushLong, State.pushWord, hk, h0, h1, h2, h3, h0', h1', h2', h3', hr, List.range_succ]

/-- R104: a write of 2 or 4 bytes stores them and leaves the rest of memory; so does whatever reads like it after. -/
theorem stored_of_writeW {t : State} (w : Bool) (a v : Long) (h : ∀ x, t.readByte x = (s.writeW w a v).readByte x) :
    Stored s t a (if w then 4 else 2) v ∧ SameMemBut s t a (if w then 4 else 2) := by
  constructor
  · intro k hk hr
    rw [h, readByte_writeW]
    have hc : k = 0 ∨ k = 1 ∨ k = 2 ∨ k = 3 := by split at hk <;> omega
    rcases hc with rfl | rfl | rfl | rfl <;> cases w <;> simp_all
  · intro x hx
    rw [h, readByte_writeW]
    have h0 := hx 0 (by split <;> omega)
    have h1 := hx 1 (by split <;> omega)
    cases w
    · simp_all
    · have h2 := hx 2 (by simp)
      have h3 := hx 3 (by simp)
      simp_all

/-- The same for a word. -/
theorem stored_of_writeWord {t : State} (a : Long) (w : Word) (h : ∀ x, t.readByte x = (s.writeWord a w).readByte x) :
    Stored s t a 2 (zext32 w) ∧ SameMemBut s t a 2 := by
  refine stored_of_writeW s false a (zext32 w) ?_
  have e : lo16 (zext32 w) = w := by
    apply BitVec.eq_of_toNat_eq
    have := w.isLt
    simp [lo16, zext32]
    omega
  simpa [State.writeW, e] using h

/-- The same for a byte. -/
theorem stored_of_writeByte {t : State} (a : Long) (v : Byte) (h : ∀ x, t.readByte x = (s.writeByte a v).readByte x) :
    Stored s t a 1 (zext32 v) ∧ SameMemBut s t a 1 := by
  constructor
  · intro k hk hr
    obtain rfl : k = 0 := by omega
    rw [h, readByte_writeByte]
    simp only [Nat.mul_zero, BitVec.add_zero] at hr ⊢
    rw [if_pos ⟨trivial, hr⟩]
    apply BitVec.eq_of_toNat_eq
    have := v.isLt
    simp [zext32]
    omega
  · intro x hx
    rw [h, readByte_writeByte]
    have h0 := hx 0 (by omega)
    simp_all

/-- A byte stored where no device lies makes no bus event. -/
theorem busLog_writeByte (a : Long) (v : Byte) (h : s.kind a ≠ .device) : (s.writeByte a v).busLog = s.busLog := by
  rw [writeByte_busLog, if_neg h]

theorem busLog_writeWord (a : Long) (w : Word) (h0 : s.kind a ≠ .device) (h1 : s.kind (a + 1) ≠ .device) :
    (s.writeWord a w).busLog = s.busLog := by
  have hk : (s.writeByte a (wordLo w)).kind (a + 1) = s.kind (a + 1) := rfl
  rw [State.writeWord, busLog_writeByte _ _ _ (by rw [hk]; exact h1), busLog_writeByte _ _ _ h0]

/-- The same for a datum of 2 or 4 bytes. -/
theorem busLog_writeW (w : Bool) (a v : Long) (h : ∀ k, k < (if w then 4 else 2) → s.kind (a + BitVec.ofNat 32 k) ≠ .device) :
    (s.writeW w a v).busLog = s.busLog := by
  have h0 := h 0 (by split <;> omega)
  have h1 := h 1 (by split <;> omega)
  simp only [BitVec.add_zero] at h0
  cases w
  · exact busLog_writeWord s a (lo16 v) h0 h1
  · have h2 := h 2 (by simp)
    have h3 := h 3 (by simp)
    have hk : ∀ y, (s.writeWord a (lo16 v)).kind y = s.kind y := fun _ => rfl
    have hr : a + 2 + 1 = a + 3 := by rw [BitVec.add_assoc]; rfl
    show (s.writeLong a v).busLog = s.busLog
    rw [State.writeLong, busLog_writeWord _ _ _ (by rw [hk]; exact h2) (by rw [hk, hr]; exact h3),
      busLog_writeWord _ _ _ h0 h1]

theorem busLog_pushWord (a : Long) (w : Word) (h0 : s.kind a ≠ .device) (h1 : s.kind (a + 1) ≠ .device) :
    (s.pushWord a w).busLog = s.busLog := by
  have hk : (s.writeByte (a + 1) (wordHi w)).kind a = s.kind a := rfl
  rw [State.pushWord, busLog_writeByte _ _ _ (by rw [hk]; exact h0), busLog_writeByte _ _ _ h1]

/-- The same for a push of 2 or 4 bytes. -/
theorem busLog_pushW (w : Bool) (a v : Long) (h : ∀ k, k < (if w then 4 else 2) → s.kind (a + BitVec.ofNat 32 k) ≠ .device) :
    (s.pushW w a v).busLog = s.busLog := by
  have h0 := h 0 (by split <;> omega)
  have h1 := h 1 (by split <;> omega)
  simp only [BitVec.add_zero] at h0
  cases w
  · exact busLog_pushWord s a (lo16 v) h0 h1
  · have h2 := h 2 (by simp)
    have h3 := h 3 (by simp)
    have hk : ∀ y, (s.pushWord (a + 2) (ext16 v)).kind y = s.kind y := fun _ => rfl
    have hr : a + 2 + 1 = a + 3 := by rw [BitVec.add_assoc]; rfl
    show (s.pushLong a v).busLog = s.busLog
    rw [State.pushLong, busLog_pushWord _ _ _ (by rw [hk]; exact h0) (by rw [hk]; exact h1)]
    exact busLog_pushWord _ _ _ h2 (by rw [hr]; exact h3)

end Sys2Proof.Machine
end

