-- ==== Sys2Proof/Laws/Effects.lean ====
section
/-! SUPPORT. How an effect is shown: its clauses one by one, the stores and the widths of the data format in force. -/

namespace Sys2Proof.Machine

/-- The equations of `encode` made here, once: theorems elaborated side by side that each wait for them use up the threads. -/
theorem encode_equations : @encode.eq_1 = @encode.eq_1 := rfl

/-- The equations of `exec` made here, once. -/
theorem exec_equations : @exec.eq_1 = @exec.eq_1 := rfl

variable {s t : State}

/-- An effect from its clauses. -/
theorem hasEffect_intro {i : Instr} {e : Effect} (hpc : t.pc = e.goto.getD (s.after i)) (hw : ∀ w ∈ e.writes, t.look w.1 = w.2)
    (hu : Unchanged (e.places s) s t) (hf : ∀ P, e.flags = some P → P t.flags)
    (hm : match e.store with
      | none => SameMem s t
      | some x => Stored s t x.1 x.2.1 x.2.2 ∧ SameMemBut s t x.1 x.2.1)
    (hd : t.ddir = match e.ddir with | some d => some d | none => s.ddir) (hp : t.portIn = s.portIn.drop e.reads)
    (hb : e.offDevices s → t.busLog = e.events ++ s.busLog)
    (h1 : t.inputs = s.inputs) (h2 : t.clock = s.clock) (h3 : t.stale = s.stale) (h4 : t.params = s.params) :
    HasEffect s i e t := ⟨hpc, hw, hu, hf, hm, hd, hp, hb, h1, h2, h3, h4⟩

theorem disp_bytes_length (d : Disp) : d.bytes.length = dispSize d := by cases d <;> rfl

theorem imm_bytes_length (v : Imm) : v.bytes.length = immSize v := by cases v <;> rfl

theorem formatBytes_eq (s : State) : s.formatBytes = if s.lwEff then 4 else 2 := rfl

theorem modeBytes_eq (s : State) : s.modeBytes = if s.xm then 4 else 2 := rfl

theorem ofNat_formatBytes (s : State) : BitVec.ofNat 32 s.formatBytes = bytesOf s.lwEff := by
  rw [formatBytes_eq]
  cases s.lwEff <;> rfl

theorem ofNat16_formatBytes (s : State) : BitVec.ofNat 16 s.formatBytes = lo16 (bytesOf s.lwEff) := by
  rw [formatBytes_eq]
  cases s.lwEff <;> rfl

theorem ofNat_modeBytes (s : State) : BitVec.ofNat 32 s.modeBytes = bytesOf s.xm := by
  rw [modeBytes_eq]
  cases s.xm <;> rfl

/-- A store in the data format in force leaves its bytes, and nothing else changes. -/
theorem stored_of_storeW (a v : Long) (h : ∀ x, t.readByte x = (s.storeW a v).readByte x) :
    Stored s t a s.formatBytes v ∧ SameMemBut s t a s.formatBytes := stored_of_writeW s s.lwEff a v h

/-- R16: a push stores its datum where SP then points. -/
theorem stored_of_push (w : Bool) (v : Long) (h : ∀ x, t.readByte x = (s.push w v).readByte x) :
    Stored s t (s.spDown (if w then 4 else 2)) (if w then 4 else 2) v ∧
      SameMemBut s t (s.spDown (if w then 4 else 2)) (if w then 4 else 2) := by
  have e : s.spDown (if w then 4 else 2) = ringed s.xm (addrAdd s.xm s.sp (-bytesOf w)) := by cases w <;> rfl
  rw [e]
  refine stored_of_writeW s w _ v fun x => ?_
  rw [h, State.push, readByte_pushW, readByte_writeW, readByte_writeW]
  rfl

/-- A push makes no bus event where no device lies. -/
theorem busLog_push (w : Bool) (v : Long)
    (h : ∀ k, k < (if w then 4 else 2) → s.kind (s.spDown (if w then 4 else 2) + BitVec.ofNat 32 k) ≠ .device) :
    (s.push w v).busLog = s.busLog := by
  have e : s.spDown (if w then 4 else 2) = ringed s.xm (addrAdd s.xm s.sp (-bytesOf w)) := by cases w <;> rfl
  rw [e] at h
  exact busLog_pushW (s.setSp _) w _ v h

/-- R432: the flags of NEGW are those of an exact subtraction from 0, but for H, which is that of the low nibble. -/
theorem negwFlags_eq (v : Word) :
    { (exactSub 12 0 v false).2 with h := decide (v.extractLsb' 0 4 ≠ 0) } = negwFlags v := by
  have hm : (v.msb && (-v).msb) = (v == 0x8000#16) := by
    rw [BitVec.msb_neg, show BitVec.intMin 16 = 0x8000#16 by decide]
    by_cases h : v = 0x8000#16
    · subst h; decide
    · by_cases h0 : v = 0#16
      · subst h0; decide
      · cases hv : v.msb <;> simp [bne, beq_eq_false_iff_ne.2 h, beq_eq_false_iff_ne.2 h0]
  have hc : (0 < v.toNat) ↔ v ≠ 0#16 := by
    rw [Nat.pos_iff_ne_zero, ne_eq, ne_eq, BitVec.toNat_eq]
    rfl
  have hz : BitVec.ofNat 16 (carryNat false) = 0#16 := rfl
  rw [exactSub_eq]
  simp only [subFlags, negwFlags, subC, hz, Flags.mk.injEq]
  refine ⟨by simp, by simp, ?_, ?_, trivial, ?_⟩
  · rw [Bool.eq_iff_iff, bne_iff_ne, decide_eq_true_eq]
  · simpa [BitVec.zero_sub] using hm
  · rw [Bool.eq_iff_iff]
    simpa [carryNat] using hc

/-- R390: the flags of INC are those of an addition of 1 with C kept. -/
theorem incFlags_eq (s : State) (v : Byte) : s.keepC (exactAdd 4 v 1 false).2 = incFlags s.flags v := by
  simp only [State.keepC, incFlags, Flags.mk.injEq]
  revert v
  decide

/-- R392: the flags of DEC are those of a subtraction of 1 with C kept. -/
theorem decFlags_eq (s : State) (v : Byte) : s.keepC (exactSub 4 v 1 false).2 = decFlags s.flags v := by
  simp only [State.keepC, decFlags, Flags.mk.injEq]
  revert v
  decide

end Sys2Proof.Machine
end

