-- ==== Sys2Proof/Laws/Entry.lean ====
section
/-! SUPPORT. What taking an exception and returning from one do: the shared entry, the call, the return; how an answer maps. -/

namespace Sys2Proof.Machine

variable (s : State)

theorem stackAt (w : Bool) : s.spDown (if w then 4 else 2) = ringed s.xm (addrAdd s.xm s.sp (-bytesOf w)) := by
  cases w <;> rfl

theorem spDown_modeBytes : s.spDown s.modeBytes = ringed s.xm (addrAdd s.xm s.sp (-bytesOf s.xm)) := stackAt s s.xm

@[simp] theorem xm_maskedBits (sr v : Long) : (maskedBits 0x20 sr v).getLsbD 7 = sr.getLsbD 7 := by simp [maskedBits]

/-- SR with IEF1 written, in the two spellings. -/
theorem withSr_ief1 (sr : Long) (b : Bool) : maskedBits 0x20 sr (if b then 0x20 else 0) = withSr sr 0x20 b := by
  apply BitVec.eq_of_getLsbD_eq
  intro i hi
  have : i < 32 := hi
  cases b <;> interval_cases i <;> simp [maskedBits, withSr]

/-- SR with IEF1 written with what it holds. -/
theorem withSr_ief1_same (sr : Long) : withSr sr 0x20 (sr.getLsbD 5) = sr := by
  apply BitVec.eq_of_getLsbD_eq
  intro i hi
  have : i < 32 := hi
  cases h : sr.getLsbD 5 <;> interval_cases i <;> simp_all [withSr]

/-- SR after IEF1 is cleared and set back. -/
theorem withSr_withSr (sr : Long) (a b : Bool) : withSr (withSr sr 0x20 a) 0x20 b = withSr sr 0x20 b := by
  apply BitVec.eq_of_getLsbD_eq
  intro i hi
  have : i < 32 := hi
  cases a <;> cases b <;> interval_cases i <;> simp [withSr]

@[simp] theorem xm_withSr (sr : Long) (b : Bool) : (withSr sr 0x20 b).getLsbD 7 = sr.getLsbD 7 := by
  rw [← withSr_ief1]
  exact xm_maskedBits _ _

/-- The state an entry pushes from. -/
def State.opened (s : State) (ief1 ief2 : Bool) : State :=
  (({ s with halted := false, standby := false }).srBits 0x20 ief1).setIef2 ief2

theorem opened_sr (a b : Bool) : (s.opened a b).sr = withSr s.sr 0x20 a := withSr_ief1 s.sr a

theorem opened_xm (a b : Bool) : (s.opened a b).xm = s.xm := by
  show (s.opened a b).sr.getLsbD 7 = s.sr.getLsbD 7
  rw [opened_sr, xm_withSr]

theorem enter_eq (a b : Bool) (ret : Long) : s.enter a b ret = (s.opened a b).push s.xm ret := rfl

/-- R735, R736: where SP points after an entry. -/
theorem enter_sp (a b : Bool) (ret : Long) : (s.enter a b ret).sp = s.spDown s.modeBytes := by
  have h : (s.enter a b ret).look .sp = s.spDown s.modeBytes := by
    rw [enter_eq, look_push, opened_xm, spDown_modeBytes]
    rfl
  exact h

/-- R735, R736: every place after an entry. -/
theorem look_enter (a b : Bool) (ret : Long) (l : Loc) : (s.enter a b ret).look l =
    match l with
    | .sp => s.spDown s.modeBytes
    | .sr => withSr s.sr 0x20 a
    | .ief2 => zext32 (bit1 b)
    | .halted => 0
    | .standby => 0
    | l => s.look l := by
  rw [enter_eq, look_push, opened_xm, spDown_modeBytes]
  cases l with
  | idx k alt y => cases y <;> rfl
  | sr => exact opened_sr s a b
  | _ => rfl

/-- R735, R736: every byte of memory after an entry. -/
theorem readByte_enter (a b : Bool) (ret x : Long) : (s.enter a b ret).readByte x = (s.push s.xm ret).readByte x := by
  rw [enter_eq, State.push, State.push, readByte_pushW, readByte_pushW, readByte_writeW, readByte_writeW]
  simp only [setSp_sp, opened_xm]
  rfl

@[simp] theorem enter_mem_clock (a b : Bool) (ret : Long) : (s.enter a b ret).clock = s.clock := by
  cases h : s.xm <;> simp [State.enter, h]

@[simp] theorem enter_params (a b : Bool) (ret : Long) : (s.enter a b ret).params = s.params := by
  cases h : s.xm <;> simp [State.enter, h]

@[simp] theorem enter_ddir (a b : Bool) (ret : Long) : (s.enter a b ret).ddir = s.ddir := by
  cases h : s.xm <;> simp [State.enter, h]

@[simp] theorem enter_portIn (a b : Bool) (ret : Long) : (s.enter a b ret).portIn = s.portIn := by
  cases h : s.xm <;> simp [State.enter, h]

@[simp] theorem enter_inputs (a b : Bool) (ret : Long) : (s.enter a b ret).inputs = s.inputs := by
  cases h : s.xm <;> simp [State.enter, h]

/-- R621: every place after a call. -/
theorem look_call (ret target : Long) (l : Loc) : (s.call ret target).look l =
    if l = .pc then ringed s.xm target
    else if l = .sp then ringed s.xm (addrAdd s.xm s.sp (-bytesOf s.xm)) else s.look l := by
  have : (s.push s.xm ret).xm = s.xm := by
    show (s.push s.xm ret).sr.getLsbD 7 = _
    simp [State.xm]
  rw [State.call, look_setPc, look_push, this]

/-- R624: every place after a return. -/
theorem look_popPc (l : Loc) : s.popPc.look l =
    if l = .pc then ringed s.xm (s.readW s.xm s.sp)
    else if l = .sp then ringed s.xm (addrAdd s.xm s.sp (bytesOf s.xm)) else s.look l := by
  rw [State.popPc, look_setPc, look_dropped]
  rfl

/-- R627: every place after the return from a handler of NMI. -/
theorem look_returnNmi (l : Loc) : s.returnNmi.look l =
    if l = .sr then withSr s.sr 0x20 s.ief2
    else if l = .pc then ringed s.xm (s.readW s.xm s.sp)
    else if l = .sp then ringed s.xm (addrAdd s.xm s.sp (bytesOf s.xm)) else s.look l := by
  rw [State.returnNmi, look_srBits, look_popPc, ← withSr_ief1]
  rfl

/-- When an answer mapped is a next state. -/
theorem onNext_eq_next (x : Exec) (f : State → State) (t : State) : onNext x f = .next t ↔ ∃ u, x = .next u ∧ t = f u := by
  cases x <;> simp [onNext, eq_comm]

end Sys2Proof.Machine
end

