-- ==== Sys2Proof/Laws/Invariant.lean ====
section
/-! SUPPORT. Which shared operations keep the invariant, one lemma per operation. -/

namespace Sys2Proof.Machine

variable {s t : State}

/-- The invariant speaks of memory, SR, PC, SP and the internal I/O space only. -/
theorem invariant_congr (h : Invariant s) (hm : t.mem = s.mem) (hsr : t.sr = s.sr) (hpc : t.pc = s.pc) (hsp : t.sp = s.sp)
    (hio : t.io = s.io) : Invariant t := by
  unfold Invariant State.xm at *
  rw [hm, hsr, hpc, hsp, hio]
  exact h

theorem invariant_setPair (p : Pair) (v : Long) (h : Invariant s) : Invariant (s.setPair p v) := invariant_congr h rfl rfl rfl rfl rfl

theorem invariant_setPairAlt (p : Pair) (v : Long) (h : Invariant s) : Invariant (s.setPairAlt p v) := invariant_congr h rfl rfl rfl rfl rfl

theorem invariant_setA (v : Byte) (h : Invariant s) : Invariant (s.setA v) := invariant_congr h rfl rfl rfl rfl rfl

theorem invariant_setF (v : Byte) (h : Invariant s) : Invariant (s.setF v) := invariant_congr h rfl rfl rfl rfl rfl

theorem invariant_setAAlt (v : Byte) (h : Invariant s) : Invariant (s.setAAlt v) := invariant_congr h rfl rfl rfl rfl rfl

theorem invariant_setFlags (v : Flags) (h : Invariant s) : Invariant (s.setFlags v) := invariant_congr h rfl rfl rfl rfl rfl

theorem invariant_setIdx (y : Idx) (v : Long) (h : Invariant s) : Invariant (s.setIdx y v) := invariant_congr h rfl rfl rfl rfl rfl

theorem invariant_setIdxAlt (y : Idx) (v : Long) (h : Invariant s) : Invariant (s.setIdxAlt y v) := invariant_congr h rfl rfl rfl rfl rfl

theorem invariant_setIreg (v : Long) (h : Invariant s) : Invariant (s.setIreg v) := invariant_congr h rfl rfl rfl rfl rfl

theorem invariant_setR (v : Byte) (h : Invariant s) : Invariant (s.setR v) := invariant_congr h rfl rfl rfl rfl rfl

theorem invariant_setIef2 (b : Bool) (h : Invariant s) : Invariant (s.setIef2 b) := invariant_congr h rfl rfl rfl rfl rfl

theorem invariant_setEiShadow (b : Bool) (h : Invariant s) : Invariant (s.setEiShadow b) := invariant_congr h rfl rfl rfl rfl rfl

theorem invariant_setDdir (d : Option Ddir) (h : Invariant s) : Invariant (s.setDdir d) := invariant_congr h rfl rfl rfl rfl rfl

theorem invariant_setHalted (b : Bool) (h : Invariant s) : Invariant (s.setHalted b) := invariant_congr h rfl rfl rfl rfl rfl

theorem invariant_setStandby (b : Bool) (h : Invariant s) : Invariant (s.setStandby b) := invariant_congr h rfl rfl rfl rfl rfl

theorem invariant_afterPortRead (w : Bool) (a : Long) (h : Invariant s) : Invariant (s.afterPortRead w a) := invariant_congr h rfl rfl rfl rfl rfl

theorem invariant_portWrite (b : Bool) (a : Long) (w : Word) (h : Invariant s) : Invariant (s.portWrite b a w) := invariant_congr h rfl rfl rfl rfl rfl

theorem invariant_tick (h : Invariant s) : Invariant (s.tick) := invariant_congr h rfl rfl rfl rfl rfl

theorem invariant_sampled (h : Invariant s) : Invariant (s.sampled) := invariant_congr h rfl rfl rfl rfl rfl

theorem invariant_wrPair (p : Pair) (v : Long) (h : Invariant s) : Invariant (s.wrPair p v) := invariant_congr h rfl rfl rfl rfl rfl

theorem invariant_wrPairAlt (p : Pair) (v : Long) (h : Invariant s) : Invariant (s.wrPairAlt p v) := invariant_congr h rfl rfl rfl rfl rfl

theorem invariant_wrIdx (y : Idx) (v : Long) (h : Invariant s) : Invariant (s.wrIdx y v) := invariant_congr h rfl rfl rfl rfl rfl

theorem invariant_wrIdxAlt (y : Idx) (v : Long) (h : Invariant s) : Invariant (s.wrIdxAlt y v) := invariant_congr h rfl rfl rfl rfl rfl

theorem invariant_setPairLo (p : Pair) (w : Word) (h : Invariant s) : Invariant (s.setPairLo p w) := invariant_congr h rfl rfl rfl rfl rfl

theorem invariant_stepPair (p : Pair) (k : Long) (h : Invariant s) : Invariant (s.stepPair p k) := invariant_congr h rfl rfl rfl rfl rfl

theorem invariant_setHalf (y : Idx) (x : Half) (v : Byte) (h : Invariant s) : Invariant (s.setHalf y x v) := by
  cases x <;> exact invariant_congr h rfl rfl rfl rfl rfl

theorem invariant_setReg8 (r : Reg8) (v : Byte) (h : Invariant s) : Invariant (s.setReg8 r v) := by
  cases r <;> exact invariant_congr h rfl rfl rfl rfl rfl

theorem invariant_setReg8Alt (r : Reg8) (v : Byte) (h : Invariant s) : Invariant (s.setReg8Alt r v) := by
  cases r <;> exact invariant_congr h rfl rfl rfl rfl rfl

/-- In native mode what goes into PC or SP has its upper word 0. -/
theorem ext16_ringed (v : Long) : ext16 (ringed false v) = 0 := by
  simp only [ringed, ext16, zext32, lo16, Bool.false_eq_true, if_false]
  apply BitVec.eq_of_getLsbD_eq
  intro i hi
  simp [BitVec.getLsbD_extractLsb', BitVec.getLsbD_setWidth]

theorem invariant_setPc (v : Long) (h : Invariant s) : Invariant (s.setPc v) := by
  refine ⟨h.1, h.2.1, fun hx => ⟨?_, (h.2.2.1 hx).2⟩, h.2.2.2⟩
  have hs : s.xm = false := hx
  show ext16 (ringed s.xm v) = 0
  rw [hs]
  exact ext16_ringed v

theorem invariant_setSp (v : Long) (h : Invariant s) : Invariant (s.setSp v) := by
  refine ⟨h.1, h.2.1, fun hx => ⟨(h.2.2.1 hx).1, ?_⟩, h.2.2.2⟩
  have hs : s.xm = false := hx
  show ext16 (ringed s.xm v) = 0
  rw [hs]
  exact ext16_ringed v

theorem invariant_advance (n : Nat) (h : Invariant s) : Invariant (s.advance n) := invariant_setPc _ h

theorem invariant_repeatIf (b : Bool) (n : Nat) (h : Invariant s) : Invariant (s.repeatIf b n) := by
  cases b
  · exact invariant_advance n h
  · exact h

theorem invariant_setPair4 (p : Pair4) (v : Long) (h : Invariant s) : Invariant (s.setPair4 p v) := by
  cases p
  · exact invariant_setPair _ _ h
  · exact invariant_setPair _ _ h
  · exact invariant_setPair _ _ h
  · exact invariant_setSp _ h

theorem invariant_wrPair4 (p : Pair4) (v : Long) (h : Invariant s) : Invariant (s.wrPair4 p v) := invariant_setPair4 p _ h

theorem invariant_writeByte (a : Long) (v : Byte) (h : Invariant s) : Invariant (s.writeByte a v) := by
  refine ⟨?_, h.2⟩
  show Memory.wf (if s.kind a = .ram then s.mem.write a.toNat v else s.mem) = true
  split
  · exact memory_wf_write _ _ _ h.1 a.isLt
  · exact h.1

theorem invariant_writeWord (a : Long) (w : Word) (h : Invariant s) : Invariant (s.writeWord a w) :=
  invariant_writeByte _ _ (invariant_writeByte _ _ h)

theorem invariant_writeLong (a v : Long) (h : Invariant s) : Invariant (s.writeLong a v) :=
  invariant_writeWord _ _ (invariant_writeWord _ _ h)

theorem invariant_writeW (w : Bool) (a v : Long) (h : Invariant s) : Invariant (s.writeW w a v) := by
  cases w
  · exact invariant_writeWord _ _ h
  · exact invariant_writeLong _ _ h

theorem invariant_storeW (a v : Long) (h : Invariant s) : Invariant (s.storeW a v) := invariant_writeW _ _ _ h

theorem invariant_setWordOp (x : WordOp) (w : Word) (h : Invariant s) : Invariant (s.setWordOp x w) := by
  cases x
  · exact invariant_setPairLo _ _ h
  · exact invariant_setPairLo _ _ h
  · exact invariant_writeWord _ _ h
  · exact invariant_setPairLo _ _ h
  · exact invariant_setIdx _ _ h
  · exact invariant_setIdx _ _ h

theorem invariant_copyBytes (d c : Long) (n : Nat) (h : Invariant s) : Invariant (s.copyBytes d c n) := by
  induction n with
  | zero => exact h
  | succ n ih => exact invariant_writeByte _ _ ih

theorem invariant_pushW (w : Bool) (a v : Long) (h : Invariant s) : Invariant (s.pushW w a v) := by
  have hw : ∀ {u : State} (b : Long) (x : Word), Invariant u → Invariant (u.pushWord b x) := fun _ _ hu =>
    invariant_writeByte _ _ (invariant_writeByte _ _ hu)
  cases w
  · exact hw _ _ h
  · exact hw _ _ (hw _ _ h)

theorem invariant_push (w : Bool) (v : Long) (h : Invariant s) : Invariant (s.push w v) :=
  invariant_pushW _ _ _ (invariant_setSp _ h)

theorem invariant_dropped (w : Bool) (h : Invariant s) : Invariant (s.dropped w) := invariant_setSp _ h

theorem invariant_call (ret target : Long) (h : Invariant s) : Invariant (s.call ret target) :=
  invariant_setPc _ (invariant_push _ _ h)

theorem invariant_popPc (h : Invariant s) : Invariant s.popPc := invariant_setPc _ (invariant_dropped _ h)

/-- R109: a masked write keeps the bits printed 0 or `-` at 0. -/
theorem invariant_ioWrite (a v : Byte) (h : Invariant s) : Invariant (s.ioWrite a v) := by
  refine ⟨h.1, h.2.1, h.2.2.1, fun b hb => ?_⟩
  have hm : ∀ m : Byte, v &&& m &&& ~~~m = 0 := by
    intro m
    rw [BitVec.and_assoc, BitVec.and_not_self]
    exact BitVec.and_zero
  show ((s.io.put a v).get b).getD 0 &&& ~~~ioMask b = 0
  rw [ioGet_put]
  split
  · next e => rw [e.1]; exact hm _
  · exact h.2.2.2 b hb

/-- A write of SR keeps the invariant if it reaches no bit printed 0 and cannot clear XM. -/
theorem invariant_srUpdate (m v : Long) (hr : m &&& srReserved = 0) (hx : m.getLsbD 7 = true → v.getLsbD 7 = true)
    (h : Invariant s) : Invariant (s.srUpdate m v) := by
  refine ⟨h.1, ?_, fun hn => h.2.2.1 ?_, h.2.2.2⟩
  · show maskedBits m s.sr v &&& srReserved = 0
    have h1 := h.2.1
    rw [maskedBits]
    apply BitVec.eq_of_getLsbD_eq
    intro i hi
    have a1 := congrArg (fun b : Long => b.getLsbD i) hr
    have a2 := congrArg (fun b : Long => b.getLsbD i) h1
    simp only [BitVec.getLsbD_and, BitVec.getLsbD_or] at a1 a2 ⊢
    cases hR : srReserved.getLsbD i <;> simp_all
  · have hn' : (maskedBits m s.sr v).getLsbD 7 = false := hn
    show s.sr.getLsbD 7 = false
    simp only [maskedBits, BitVec.getLsbD_or, BitVec.getLsbD_and, BitVec.getLsbD_not] at hn'
    cases hm : m.getLsbD 7 <;> simp_all

theorem invariant_srBits_of (m : Long) (b : Bool) (hr : m &&& srReserved = 0) (hx : m.getLsbD 7 = true → b = true)
    (h : Invariant s) : Invariant (s.srBits m b) := by
  refine invariant_srUpdate m _ hr (fun e => ?_) h
  rw [hx e]
  simpa using e

theorem invariant_srToggle (m : Long) (hr : m &&& srReserved = 0) (hx : m.getLsbD 7 = false) (h : Invariant s) :
    Invariant (s.srToggle m) :=
  invariant_srUpdate m _ hr (fun e => by rw [hx] at e; cases e) h

theorem invariant_srWrite (m v : Long) (h : Invariant s) : Invariant (s.srWrite m v) := by
  refine invariant_srUpdate _ v ?_ (fun e => ?_) h
  · rw [BitVec.and_assoc]
    have : srWritable &&& srReserved = 0 := by decide
    rw [this]
    exact BitVec.and_zero
  · rw [BitVec.getLsbD_and] at e
    have : srWritable.getLsbD 7 = false := by decide
    rw [this, Bool.and_false] at e
    cases e

theorem invariant_returnNmi (h : Invariant s) : Invariant s.returnNmi :=
  invariant_srBits_of _ _ (by decide) (fun e => absurd e (by decide)) (invariant_popPc h)

/-- R735, R736: the entry of an exception keeps the invariant. -/
theorem invariant_enter (a b : Bool) (ret : Long) (h : Invariant s) : Invariant (s.enter a b ret) := by
  refine invariant_push _ _ (invariant_setIef2 _ (invariant_srBits_of _ _ (by decide) (fun e => absurd e (by decide)) ?_))
  exact invariant_congr h rfl rfl rfl rfl rfl

theorem invariant_vectorTo (a : Long) (h : Invariant s) : Invariant (s.vectorTo a) := invariant_setPc _ h

end Sys2Proof.Machine
end

