-- ==== Sys2Proof/Laws/PerInstr.lean ====
section
/-! SUPPORT. What holds of every instruction as syntax, one lemma per constructor. -/

namespace Sys2Proof.Laws

/-- R166: an instruction is 1 to 7 bytes long. -/
def EncodeLength.Statement (i : Instr) : Prop := 1 ≤ (encode i).length ∧ (encode i).length ≤ maxLength

/-- An encoding that ends in a displacement. -/
theorem disp_ends (a b : BitVec 8) (d : Disp) :
    1 ≤ ([a, b] ++ d.bytes).length ∧ ([a, b] ++ d.bytes).length ≤ maxLength := by
  cases d <;> exact ⟨Nat.le_of_ble_eq_true rfl, Nat.le_of_ble_eq_true rfl⟩

/-- An encoding with a displacement before its last byte. -/
theorem disp_inside (a b c : BitVec 8) (d : Disp) :
    1 ≤ ([a, b] ++ d.bytes ++ [c]).length ∧ ([a, b] ++ d.bytes ++ [c]).length ≤ maxLength := by
  cases d <;> exact ⟨Nat.le_of_ble_eq_true rfl, Nat.le_of_ble_eq_true rfl⟩

/-- An encoding of one byte and an immediate field. -/
theorem imm_ends1 (a : BitVec 8) (v : Imm) :
    1 ≤ ([a] ++ v.bytes).length ∧ ([a] ++ v.bytes).length ≤ maxLength := by
  cases v <;> exact ⟨Nat.le_of_ble_eq_true rfl, Nat.le_of_ble_eq_true rfl⟩

/-- An encoding of two bytes and an immediate field. -/
theorem imm_ends2 (a b : BitVec 8) (v : Imm) :
    1 ≤ ([a, b] ++ v.bytes).length ∧ ([a, b] ++ v.bytes).length ≤ maxLength := by
  cases v <;> exact ⟨Nat.le_of_ble_eq_true rfl, Nat.le_of_ble_eq_true rfl⟩

/-- An encoding of three bytes and an immediate field. -/
theorem imm_ends3 (a b c : BitVec 8) (v : Imm) :
    1 ≤ ([a, b, c] ++ v.bytes).length ∧ ([a, b, c] ++ v.bytes).length ≤ maxLength := by
  cases v <;> exact ⟨Nat.le_of_ble_eq_true rfl, Nat.le_of_ble_eq_true rfl⟩

theorem EncodeLength.ldDdNn (dd : Pair4) (nn : Imm) : EncodeLength.Statement (.ldDdNn dd nn) :=
  imm_ends1 _ nn

theorem EncodeLength.incDd (dd : Pair4) : EncodeLength.Statement (.incDd dd) :=
  ⟨Nat.le_add_left _ _, Nat.le_of_ble_eq_true rfl⟩

theorem EncodeLength.decDd (dd : Pair4) : EncodeLength.Statement (.decDd dd) :=
  ⟨Nat.le_add_left _ _, Nat.le_of_ble_eq_true rfl⟩

theorem EncodeLength.incR (r : Reg8) : EncodeLength.Statement (.incR r) :=
  ⟨Nat.le_add_left _ _, Nat.le_of_ble_eq_true rfl⟩

theorem EncodeLength.decR (r : Reg8) : EncodeLength.Statement (.decR r) :=
  ⟨Nat.le_add_left _ _, Nat.le_of_ble_eq_true rfl⟩

theorem EncodeLength.ldRN (r : Reg8) (n : BitVec 8) : EncodeLength.Statement (.ldRN r n) :=
  ⟨Nat.le_add_left _ _, Nat.le_of_ble_eq_true rfl⟩

theorem EncodeLength.ldIndHlN (n : BitVec 8) : EncodeLength.Statement (.ldIndHlN n) :=
  ⟨Nat.le_add_left _ _, Nat.le_of_ble_eq_true rfl⟩

theorem EncodeLength.addHlDd (dd : Pair4) : EncodeLength.Statement (.addHlDd dd) :=
  ⟨Nat.le_add_left _ _, Nat.le_of_ble_eq_true rfl⟩

theorem EncodeLength.djnzE8 (e : BitVec 8) : EncodeLength.Statement (.djnzE8 e) :=
  ⟨Nat.le_add_left _ _, Nat.le_of_ble_eq_true rfl⟩

theorem EncodeLength.jrE8 (e : BitVec 8) : EncodeLength.Statement (.jrE8 e) :=
  ⟨Nat.le_add_left _ _, Nat.le_of_ble_eq_true rfl⟩

theorem EncodeLength.jrCcE8 (cc : Cond) (e : BitVec 8) : EncodeLength.Statement (.jrCcE8 cc e) :=
  ⟨Nat.le_add_left _ _, Nat.le_of_ble_eq_true rfl⟩

theorem EncodeLength.ldDirNnHl (nn : Imm) : EncodeLength.Statement (.ldDirNnHl nn) :=
  imm_ends1 _ nn

theorem EncodeLength.ldHlDirNn (nn : Imm) : EncodeLength.Statement (.ldHlDirNn nn) :=
  imm_ends1 _ nn

theorem EncodeLength.ldDirNnA (nn : Imm) : EncodeLength.Statement (.ldDirNnA nn) :=
  imm_ends1 _ nn

theorem EncodeLength.ldADirNn (nn : Imm) : EncodeLength.Statement (.ldADirNn nn) :=
  imm_ends1 _ nn

theorem EncodeLength.ldRR (r : Reg8) (r' : Reg8) : EncodeLength.Statement (.ldRR r r') :=
  ⟨Nat.le_add_left _ _, Nat.le_of_ble_eq_true rfl⟩

theorem EncodeLength.ldRIndHl (r : Reg8) : EncodeLength.Statement (.ldRIndHl r) :=
  ⟨Nat.le_add_left _ _, Nat.le_of_ble_eq_true rfl⟩

theorem EncodeLength.ldIndHlR (r : Reg8) : EncodeLength.Statement (.ldIndHlR r) :=
  ⟨Nat.le_add_left _ _, Nat.le_of_ble_eq_true rfl⟩

theorem EncodeLength.addAR (r : Reg8) : EncodeLength.Statement (.addAR r) :=
  ⟨Nat.le_add_left _ _, Nat.le_of_ble_eq_true rfl⟩

theorem EncodeLength.addAN (n : BitVec 8) : EncodeLength.Statement (.addAN n) :=
  ⟨Nat.le_add_left _ _, Nat.le_of_ble_eq_true rfl⟩

theorem EncodeLength.adcAR (r : Reg8) : EncodeLength.Statement (.adcAR r) :=
  ⟨Nat.le_add_left _ _, Nat.le_of_ble_eq_true rfl⟩

theorem EncodeLength.adcAN (n : BitVec 8) : EncodeLength.Statement (.adcAN n) :=
  ⟨Nat.le_add_left _ _, Nat.le_of_ble_eq_true rfl⟩

theorem EncodeLength.subR (r : Reg8) : EncodeLength.Statement (.subR r) :=
  ⟨Nat.le_add_left _ _, Nat.le_of_ble_eq_true rfl⟩

theorem EncodeLength.subN (n : BitVec 8) : EncodeLength.Statement (.subN n) :=
  ⟨Nat.le_add_left _ _, Nat.le_of_ble_eq_true rfl⟩

theorem EncodeLength.sbcAR (r : Reg8) : EncodeLength.Statement (.sbcAR r) :=
  ⟨Nat.le_add_left _ _, Nat.le_of_ble_eq_true rfl⟩

theorem EncodeLength.sbcAN (n : BitVec 8) : EncodeLength.Statement (.sbcAN n) :=
  ⟨Nat.le_add_left _ _, Nat.le_of_ble_eq_true rfl⟩

theorem EncodeLength.andR (r : Reg8) : EncodeLength.Statement (.andR r) :=
  ⟨Nat.le_add_left _ _, Nat.le_of_ble_eq_true rfl⟩

theorem EncodeLength.andN (n : BitVec 8) : EncodeLength.Statement (.andN n) :=
  ⟨Nat.le_add_left _ _, Nat.le_of_ble_eq_true rfl⟩

theorem EncodeLength.xorR (r : Reg8) : EncodeLength.Statement (.xorR r) :=
  ⟨Nat.le_add_left _ _, Nat.le_of_ble_eq_true rfl⟩

theorem EncodeLength.xorN (n : BitVec 8) : EncodeLength.Statement (.xorN n) :=
  ⟨Nat.le_add_left _ _, Nat.le_of_ble_eq_true rfl⟩

theorem EncodeLength.orR (r : Reg8) : EncodeLength.Statement (.orR r) :=
  ⟨Nat.le_add_left _ _, Nat.le_of_ble_eq_true rfl⟩

theorem EncodeLength.orN (n : BitVec 8) : EncodeLength.Statement (.orN n) :=
  ⟨Nat.le_add_left _ _, Nat.le_of_ble_eq_true rfl⟩

theorem EncodeLength.cpR (r : Reg8) : EncodeLength.Statement (.cpR r) :=
  ⟨Nat.le_add_left _ _, Nat.le_of_ble_eq_true rfl⟩

theorem EncodeLength.cpN (n : BitVec 8) : EncodeLength.Statement (.cpN n) :=
  ⟨Nat.le_add_left _ _, Nat.le_of_ble_eq_true rfl⟩

theorem EncodeLength.retCc (cc : Cond) : EncodeLength.Statement (.retCc cc) :=
  ⟨Nat.le_add_left _ _, Nat.le_of_ble_eq_true rfl⟩

theorem EncodeLength.popQq (qq : Pair) : EncodeLength.Statement (.popQq qq) :=
  ⟨Nat.le_add_left _ _, Nat.le_of_ble_eq_true rfl⟩

theorem EncodeLength.jpCcNn (cc : Cond) (nn : Imm) : EncodeLength.Statement (.jpCcNn cc nn) :=
  imm_ends1 _ nn

theorem EncodeLength.jpNn (nn : Imm) : EncodeLength.Statement (.jpNn nn) :=
  imm_ends1 _ nn

theorem EncodeLength.callCcNn (cc : Cond) (nn : Imm) : EncodeLength.Statement (.callCcNn cc nn) :=
  imm_ends1 _ nn

theorem EncodeLength.pushQq (qq : Pair) : EncodeLength.Statement (.pushQq qq) :=
  ⟨Nat.le_add_left _ _, Nat.le_of_ble_eq_true rfl⟩

theorem EncodeLength.rstP (p : BitVec 3) : EncodeLength.Statement (.rstP p) :=
  ⟨Nat.le_add_left _ _, Nat.le_of_ble_eq_true rfl⟩

theorem EncodeLength.callNn (nn : Imm) : EncodeLength.Statement (.callNn nn) :=
  imm_ends1 _ nn

theorem EncodeLength.outPortNA (n : BitVec 8) : EncodeLength.Statement (.outPortNA n) :=
  ⟨Nat.le_add_left _ _, Nat.le_of_ble_eq_true rfl⟩

theorem EncodeLength.inAPortN (n : BitVec 8) : EncodeLength.Statement (.inAPortN n) :=
  ⟨Nat.le_add_left _ _, Nat.le_of_ble_eq_true rfl⟩

theorem EncodeLength.rlcR (r : Reg8) : EncodeLength.Statement (.rlcR r) :=
  ⟨Nat.le_add_left _ _, Nat.le_of_ble_eq_true rfl⟩

theorem EncodeLength.rrcR (r : Reg8) : EncodeLength.Statement (.rrcR r) :=
  ⟨Nat.le_add_left _ _, Nat.le_of_ble_eq_true rfl⟩

theorem EncodeLength.rlR (r : Reg8) : EncodeLength.Statement (.rlR r) :=
  ⟨Nat.le_add_left _ _, Nat.le_of_ble_eq_true rfl⟩

theorem EncodeLength.rrR (r : Reg8) : EncodeLength.Statement (.rrR r) :=
  ⟨Nat.le_add_left _ _, Nat.le_of_ble_eq_true rfl⟩

theorem EncodeLength.slaR (r : Reg8) : EncodeLength.Statement (.slaR r) :=
  ⟨Nat.le_add_left _ _, Nat.le_of_ble_eq_true rfl⟩

theorem EncodeLength.sraR (r : Reg8) : EncodeLength.Statement (.sraR r) :=
  ⟨Nat.le_add_left _ _, Nat.le_of_ble_eq_true rfl⟩

theorem EncodeLength.srlR (r : Reg8) : EncodeLength.Statement (.srlR r) :=
  ⟨Nat.le_add_left _ _, Nat.le_of_ble_eq_true rfl⟩

theorem EncodeLength.exRRAlt (r : Reg8) : EncodeLength.Statement (.exRRAlt r) :=
  ⟨Nat.le_add_left _ _, Nat.le_of_ble_eq_true rfl⟩

theorem EncodeLength.bitBR (b : BitVec 3) (r : Reg8) : EncodeLength.Statement (.bitBR b r) :=
  ⟨Nat.le_add_left _ _, Nat.le_of_ble_eq_true rfl⟩

theorem EncodeLength.bitBIndHl (b : BitVec 3) : EncodeLength.Statement (.bitBIndHl b) :=
  ⟨Nat.le_add_left _ _, Nat.le_of_ble_eq_true rfl⟩

theorem EncodeLength.resBR (b : BitVec 3) (r : Reg8) : EncodeLength.Statement (.resBR b r) :=
  ⟨Nat.le_add_left _ _, Nat.le_of_ble_eq_true rfl⟩

theorem EncodeLength.resBIndHl (b : BitVec 3) : EncodeLength.Statement (.resBIndHl b) :=
  ⟨Nat.le_add_left _ _, Nat.le_of_ble_eq_true rfl⟩

theorem EncodeLength.setBR (b : BitVec 3) (r : Reg8) : EncodeLength.Statement (.setBR b r) :=
  ⟨Nat.le_add_left _ _, Nat.le_of_ble_eq_true rfl⟩

theorem EncodeLength.setBIndHl (b : BitVec 3) : EncodeLength.Statement (.setBIndHl b) :=
  ⟨Nat.le_add_left _ _, Nat.le_of_ble_eq_true rfl⟩

theorem EncodeLength.addXyTt (y : Idx) (tt : AddSrc) : EncodeLength.Statement (.addXyTt y tt) :=
  ⟨Nat.le_add_left _ _, Nat.le_of_ble_eq_true rfl⟩

theorem EncodeLength.ldIndPpXy (pp : Pair) (y : Idx) : EncodeLength.Statement (.ldIndPpXy pp y) :=
  ⟨Nat.le_add_left _ _, Nat.le_of_ble_eq_true rfl⟩

theorem EncodeLength.ldXyIndPp (y : Idx) (pp : Pair) : EncodeLength.Statement (.ldXyIndPp y pp) :=
  ⟨Nat.le_add_left _ _, Nat.le_of_ble_eq_true rfl⟩

theorem EncodeLength.ldXyPp (y : Idx) (pp : Pair) : EncodeLength.Statement (.ldXyPp y pp) :=
  ⟨Nat.le_add_left _ _, Nat.le_of_ble_eq_true rfl⟩

theorem EncodeLength.ldPpXy (pp : Pair) (y : Idx) : EncodeLength.Statement (.ldPpXy pp y) :=
  ⟨Nat.le_add_left _ _, Nat.le_of_ble_eq_true rfl⟩

theorem EncodeLength.ldPpIndUu (pp : Pair) (uu : Pair) : EncodeLength.Statement (.ldPpIndUu pp uu) :=
  ⟨Nat.le_add_left _ _, Nat.le_of_ble_eq_true rfl⟩

theorem EncodeLength.ldIndPpUu (pp : Pair) (uu : Pair) : EncodeLength.Statement (.ldIndPpUu pp uu) :=
  ⟨Nat.le_add_left _ _, Nat.le_of_ble_eq_true rfl⟩

theorem EncodeLength.ldPpBc (pp : Pair) : EncodeLength.Statement (.ldPpBc pp) :=
  ⟨Nat.le_add_left _ _, Nat.le_of_ble_eq_true rfl⟩

theorem EncodeLength.ldPpDe (pp : Pair) : EncodeLength.Statement (.ldPpDe pp) :=
  ⟨Nat.le_add_left _ _, Nat.le_of_ble_eq_true rfl⟩

theorem EncodeLength.ldPpHl (pp : Pair) : EncodeLength.Statement (.ldPpHl pp) :=
  ⟨Nat.le_add_left _ _, Nat.le_of_ble_eq_true rfl⟩

theorem EncodeLength.djnzE16 (e : BitVec 16) : EncodeLength.Statement (.djnzE16 e) :=
  ⟨Nat.le_add_left _ _, Nat.le_of_ble_eq_true rfl⟩

theorem EncodeLength.djnzE24 (e : BitVec 24) : EncodeLength.Statement (.djnzE24 e) :=
  ⟨Nat.le_add_left _ _, Nat.le_of_ble_eq_true rfl⟩

theorem EncodeLength.jrE16 (e : BitVec 16) : EncodeLength.Statement (.jrE16 e) :=
  ⟨Nat.le_add_left _ _, Nat.le_of_ble_eq_true rfl⟩

theorem EncodeLength.jrE24 (e : BitVec 24) : EncodeLength.Statement (.jrE24 e) :=
  ⟨Nat.le_add_left _ _, Nat.le_of_ble_eq_true rfl⟩

theorem EncodeLength.jrCcE16 (cc : Cond) (e : BitVec 16) : EncodeLength.Statement (.jrCcE16 cc e) :=
  ⟨Nat.le_add_left _ _, Nat.le_of_ble_eq_true rfl⟩

theorem EncodeLength.jrCcE24 (cc : Cond) (e : BitVec 24) : EncodeLength.Statement (.jrCcE24 cc e) :=
  ⟨Nat.le_add_left _ _, Nat.le_of_ble_eq_true rfl⟩

theorem EncodeLength.ldXyNn (y : Idx) (nn : Imm) : EncodeLength.Statement (.ldXyNn y nn) :=
  imm_ends2 _ _ nn

theorem EncodeLength.ldDirNnXy (nn : Imm) (y : Idx) : EncodeLength.Statement (.ldDirNnXy nn y) :=
  imm_ends2 _ _ nn

theorem EncodeLength.ldXyDirNn (y : Idx) (nn : Imm) : EncodeLength.Statement (.ldXyDirNn y nn) :=
  imm_ends2 _ _ nn

theorem EncodeLength.incXy (y : Idx) : EncodeLength.Statement (.incXy y) :=
  ⟨Nat.le_add_left _ _, Nat.le_of_ble_eq_true rfl⟩

theorem EncodeLength.decXy (y : Idx) : EncodeLength.Statement (.decXy y) :=
  ⟨Nat.le_add_left _ _, Nat.le_of_ble_eq_true rfl⟩

theorem EncodeLength.incHalf (y : Idx) (h : Half) : EncodeLength.Statement (.incHalf y h) :=
  ⟨Nat.le_add_left _ _, Nat.le_of_ble_eq_true rfl⟩

theorem EncodeLength.decHalf (y : Idx) (h : Half) : EncodeLength.Statement (.decHalf y h) :=
  ⟨Nat.le_add_left _ _, Nat.le_of_ble_eq_true rfl⟩

theorem EncodeLength.ldHalfN (y : Idx) (h : Half) (n : BitVec 8) : EncodeLength.Statement (.ldHalfN y h n) :=
  ⟨Nat.le_add_left _ _, Nat.le_of_ble_eq_true rfl⟩

theorem EncodeLength.incIdxD (y : Idx) (d : Disp) : EncodeLength.Statement (.incIdxD y d) :=
  disp_ends _ _ d

theorem EncodeLength.decIdxD (y : Idx) (d : Disp) : EncodeLength.Statement (.decIdxD y d) :=
  disp_ends _ _ d

theorem EncodeLength.ldIdxDN (y : Idx) (d : Disp) (n : BitVec 8) : EncodeLength.Statement (.ldIdxDN y d n) :=
  disp_inside _ _ _ d

theorem EncodeLength.swapXy (y : Idx) : EncodeLength.Statement (.swapXy y) :=
  ⟨Nat.le_add_left _ _, Nat.le_of_ble_eq_true rfl⟩

theorem EncodeLength.outwPortCNn (nn : Imm) : EncodeLength.Statement (.outwPortCNn nn) :=
  imm_ends2 _ _ nn

theorem EncodeLength.ldHalfS (y : Idx) (h : Half) (src : HalfSrc) : EncodeLength.Statement (.ldHalfS y h src) :=
  ⟨Nat.le_add_left _ _, Nat.le_of_ble_eq_true rfl⟩

theorem EncodeLength.ldRHalf (r : Reg8) (y : Idx) (h : Half) : EncodeLength.Statement (.ldRHalf r y h) :=
  ⟨Nat.le_add_left _ _, Nat.le_of_ble_eq_true rfl⟩

theorem EncodeLength.ldRIdxD (r : Reg8) (y : Idx) (d : Disp) : EncodeLength.Statement (.ldRIdxD r y d) :=
  disp_ends _ _ d

theorem EncodeLength.ldIdxDR (y : Idx) (d : Disp) (r : Reg8) : EncodeLength.Statement (.ldIdxDR y d r) :=
  disp_ends _ _ d

theorem EncodeLength.addAHalf (y : Idx) (h : Half) : EncodeLength.Statement (.addAHalf y h) :=
  ⟨Nat.le_add_left _ _, Nat.le_of_ble_eq_true rfl⟩

theorem EncodeLength.addAIdxD (y : Idx) (d : Disp) : EncodeLength.Statement (.addAIdxD y d) :=
  disp_ends _ _ d

theorem EncodeLength.adcAHalf (y : Idx) (h : Half) : EncodeLength.Statement (.adcAHalf y h) :=
  ⟨Nat.le_add_left _ _, Nat.le_of_ble_eq_true rfl⟩

theorem EncodeLength.adcAIdxD (y : Idx) (d : Disp) : EncodeLength.Statement (.adcAIdxD y d) :=
  disp_ends _ _ d

theorem EncodeLength.subHalf (y : Idx) (h : Half) : EncodeLength.Statement (.subHalf y h) :=
  ⟨Nat.le_add_left _ _, Nat.le_of_ble_eq_true rfl⟩

theorem EncodeLength.subIdxD (y : Idx) (d : Disp) : EncodeLength.Statement (.subIdxD y d) :=
  disp_ends _ _ d

theorem EncodeLength.sbcAHalf (y : Idx) (h : Half) : EncodeLength.Statement (.sbcAHalf y h) :=
  ⟨Nat.le_add_left _ _, Nat.le_of_ble_eq_true rfl⟩

theorem EncodeLength.sbcAIdxD (y : Idx) (d : Disp) : EncodeLength.Statement (.sbcAIdxD y d) :=
  disp_ends _ _ d

theorem EncodeLength.andHalf (y : Idx) (h : Half) : EncodeLength.Statement (.andHalf y h) :=
  ⟨Nat.le_add_left _ _, Nat.le_of_ble_eq_true rfl⟩

theorem EncodeLength.andIdxD (y : Idx) (d : Disp) : EncodeLength.Statement (.andIdxD y d) :=
  disp_ends _ _ d

theorem EncodeLength.xorHalf (y : Idx) (h : Half) : EncodeLength.Statement (.xorHalf y h) :=
  ⟨Nat.le_add_left _ _, Nat.le_of_ble_eq_true rfl⟩

theorem EncodeLength.xorIdxD (y : Idx) (d : Disp) : EncodeLength.Statement (.xorIdxD y d) :=
  disp_ends _ _ d

theorem EncodeLength.orHalf (y : Idx) (h : Half) : EncodeLength.Statement (.orHalf y h) :=
  ⟨Nat.le_add_left _ _, Nat.le_of_ble_eq_true rfl⟩

theorem EncodeLength.orIdxD (y : Idx) (d : Disp) : EncodeLength.Statement (.orIdxD y d) :=
  disp_ends _ _ d

theorem EncodeLength.cpHalf (y : Idx) (h : Half) : EncodeLength.Statement (.cpHalf y h) :=
  ⟨Nat.le_add_left _ _, Nat.le_of_ble_eq_true rfl⟩

theorem EncodeLength.cpIdxD (y : Idx) (d : Disp) : EncodeLength.Statement (.cpIdxD y d) :=
  disp_ends _ _ d

theorem EncodeLength.addwHlXy (y : Idx) : EncodeLength.Statement (.addwHlXy y) :=
  ⟨Nat.le_add_left _ _, Nat.le_of_ble_eq_true rfl⟩

theorem EncodeLength.addwHlIdxD (y : Idx) (d : Disp) : EncodeLength.Statement (.addwHlIdxD y d) :=
  disp_ends _ _ d

theorem EncodeLength.addwHlPp (pp : Pair) : EncodeLength.Statement (.addwHlPp pp) :=
  ⟨Nat.le_add_left _ _, Nat.le_of_ble_eq_true rfl⟩

theorem EncodeLength.addwHlNn (nn : Imm) : EncodeLength.Statement (.addwHlNn nn) :=
  imm_ends2 _ _ nn

theorem EncodeLength.adcwHlXy (y : Idx) : EncodeLength.Statement (.adcwHlXy y) :=
  ⟨Nat.le_add_left _ _, Nat.le_of_ble_eq_true rfl⟩

theorem EncodeLength.adcwHlIdxD (y : Idx) (d : Disp) : EncodeLength.Statement (.adcwHlIdxD y d) :=
  disp_ends _ _ d

theorem EncodeLength.adcwHlPp (pp : Pair) : EncodeLength.Statement (.adcwHlPp pp) :=
  ⟨Nat.le_add_left _ _, Nat.le_of_ble_eq_true rfl⟩

theorem EncodeLength.adcwHlNn (nn : Imm) : EncodeLength.Statement (.adcwHlNn nn) :=
  imm_ends2 _ _ nn

theorem EncodeLength.subwHlXy (y : Idx) : EncodeLength.Statement (.subwHlXy y) :=
  ⟨Nat.le_add_left _ _, Nat.le_of_ble_eq_true rfl⟩

theorem EncodeLength.subwHlIdxD (y : Idx) (d : Disp) : EncodeLength.Statement (.subwHlIdxD y d) :=
  disp_ends _ _ d

theorem EncodeLength.subwHlPp (pp : Pair) : EncodeLength.Statement (.subwHlPp pp) :=
  ⟨Nat.le_add_left _ _, Nat.le_of_ble_eq_true rfl⟩

theorem EncodeLength.subwHlNn (nn : Imm) : EncodeLength.Statement (.subwHlNn nn) :=
  imm_ends2 _ _ nn

theorem EncodeLength.sbcwHlXy (y : Idx) : EncodeLength.Statement (.sbcwHlXy y) :=
  ⟨Nat.le_add_left _ _, Nat.le_of_ble_eq_true rfl⟩

theorem EncodeLength.sbcwHlIdxD (y : Idx) (d : Disp) : EncodeLength.Statement (.sbcwHlIdxD y d) :=
  disp_ends _ _ d

theorem EncodeLength.sbcwHlPp (pp : Pair) : EncodeLength.Statement (.sbcwHlPp pp) :=
  ⟨Nat.le_add_left _ _, Nat.le_of_ble_eq_true rfl⟩

theorem EncodeLength.sbcwHlNn (nn : Imm) : EncodeLength.Statement (.sbcwHlNn nn) :=
  imm_ends2 _ _ nn

theorem EncodeLength.andwHlXy (y : Idx) : EncodeLength.Statement (.andwHlXy y) :=
  ⟨Nat.le_add_left _ _, Nat.le_of_ble_eq_true rfl⟩

theorem EncodeLength.andwHlIdxD (y : Idx) (d : Disp) : EncodeLength.Statement (.andwHlIdxD y d) :=
  disp_ends _ _ d

theorem EncodeLength.andwHlPp (pp : Pair) : EncodeLength.Statement (.andwHlPp pp) :=
  ⟨Nat.le_add_left _ _, Nat.le_of_ble_eq_true rfl⟩

theorem EncodeLength.andwHlNn (nn : Imm) : EncodeLength.Statement (.andwHlNn nn) :=
  imm_ends2 _ _ nn

theorem EncodeLength.xorwHlXy (y : Idx) : EncodeLength.Statement (.xorwHlXy y) :=
  ⟨Nat.le_add_left _ _, Nat.le_of_ble_eq_true rfl⟩

theorem EncodeLength.xorwHlIdxD (y : Idx) (d : Disp) : EncodeLength.Statement (.xorwHlIdxD y d) :=
  disp_ends _ _ d

theorem EncodeLength.xorwHlPp (pp : Pair) : EncodeLength.Statement (.xorwHlPp pp) :=
  ⟨Nat.le_add_left _ _, Nat.le_of_ble_eq_true rfl⟩

theorem EncodeLength.xorwHlNn (nn : Imm) : EncodeLength.Statement (.xorwHlNn nn) :=
  imm_ends2 _ _ nn

theorem EncodeLength.orwHlXy (y : Idx) : EncodeLength.Statement (.orwHlXy y) :=
  ⟨Nat.le_add_left _ _, Nat.le_of_ble_eq_true rfl⟩

theorem EncodeLength.orwHlIdxD (y : Idx) (d : Disp) : EncodeLength.Statement (.orwHlIdxD y d) :=
  disp_ends _ _ d

theorem EncodeLength.orwHlPp (pp : Pair) : EncodeLength.Statement (.orwHlPp pp) :=
  ⟨Nat.le_add_left _ _, Nat.le_of_ble_eq_true rfl⟩

theorem EncodeLength.orwHlNn (nn : Imm) : EncodeLength.Statement (.orwHlNn nn) :=
  imm_ends2 _ _ nn

theorem EncodeLength.cpwHlXy (y : Idx) : EncodeLength.Statement (.cpwHlXy y) :=
  ⟨Nat.le_add_left _ _, Nat.le_of_ble_eq_true rfl⟩

theorem EncodeLength.cpwHlIdxD (y : Idx) (d : Disp) : EncodeLength.Statement (.cpwHlIdxD y d) :=
  disp_ends _ _ d

theorem EncodeLength.cpwHlPp (pp : Pair) : EncodeLength.Statement (.cpwHlPp pp) :=
  ⟨Nat.le_add_left _ _, Nat.le_of_ble_eq_true rfl⟩

theorem EncodeLength.cpwHlNn (nn : Imm) : EncodeLength.Statement (.cpwHlNn nn) :=
  imm_ends2 _ _ nn

theorem EncodeLength.calrCcE16 (cc : Cond) (e : BitVec 16) : EncodeLength.Statement (.calrCcE16 cc e) :=
  ⟨Nat.le_add_left _ _, Nat.le_of_ble_eq_true rfl⟩

theorem EncodeLength.calrCcE24 (cc : Cond) (e : BitVec 24) : EncodeLength.Statement (.calrCcE24 cc e) :=
  ⟨Nat.le_add_left _ _, Nat.le_of_ble_eq_true rfl⟩

theorem EncodeLength.calrE16 (e : BitVec 16) : EncodeLength.Statement (.calrE16 e) :=
  ⟨Nat.le_add_left _ _, Nat.le_of_ble_eq_true rfl⟩

theorem EncodeLength.calrE24 (e : BitVec 24) : EncodeLength.Statement (.calrE24 e) :=
  ⟨Nat.le_add_left _ _, Nat.le_of_ble_eq_true rfl⟩

theorem EncodeLength.ldctlSrN (n : BitVec 8) : EncodeLength.Statement (.ldctlSrN n) :=
  ⟨Nat.le_add_left _ _, Nat.le_of_ble_eq_true rfl⟩

theorem EncodeLength.ldctlXsrN (n : BitVec 8) : EncodeLength.Statement (.ldctlXsrN n) :=
  ⟨Nat.le_add_left _ _, Nat.le_of_ble_eq_true rfl⟩

theorem EncodeLength.ldctlYsrN (n : BitVec 8) : EncodeLength.Statement (.ldctlYsrN n) :=
  ⟨Nat.le_add_left _ _, Nat.le_of_ble_eq_true rfl⟩

theorem EncodeLength.outawDirNnHl (nn : Imm) : EncodeLength.Statement (.outawDirNnHl nn) :=
  imm_ends2 _ _ nn

theorem EncodeLength.inawHlDirNn (nn : Imm) : EncodeLength.Statement (.inawHlDirNn nn) :=
  imm_ends2 _ _ nn

theorem EncodeLength.popXy (y : Idx) : EncodeLength.Statement (.popXy y) :=
  ⟨Nat.le_add_left _ _, Nat.le_of_ble_eq_true rfl⟩

theorem EncodeLength.exIndSpXy (y : Idx) : EncodeLength.Statement (.exIndSpXy y) :=
  ⟨Nat.le_add_left _ _, Nat.le_of_ble_eq_true rfl⟩

theorem EncodeLength.pushXy (y : Idx) : EncodeLength.Statement (.pushXy y) :=
  ⟨Nat.le_add_left _ _, Nat.le_of_ble_eq_true rfl⟩

theorem EncodeLength.jpIndXy (y : Idx) : EncodeLength.Statement (.jpIndXy y) :=
  ⟨Nat.le_add_left _ _, Nat.le_of_ble_eq_true rfl⟩

theorem EncodeLength.ldSpXy (y : Idx) : EncodeLength.Statement (.ldSpXy y) :=
  ⟨Nat.le_add_left _ _, Nat.le_of_ble_eq_true rfl⟩

theorem EncodeLength.diN (n : BitVec 8) : EncodeLength.Statement (.diN n) :=
  ⟨Nat.le_add_left _ _, Nat.le_of_ble_eq_true rfl⟩

theorem EncodeLength.eiN (n : BitVec 8) : EncodeLength.Statement (.eiN n) :=
  ⟨Nat.le_add_left _ _, Nat.le_of_ble_eq_true rfl⟩

theorem EncodeLength.pushNn (nn : Imm) : EncodeLength.Statement (.pushNn nn) :=
  imm_ends2 _ _ nn

theorem EncodeLength.rlcIdxD (y : Idx) (d : Disp) : EncodeLength.Statement (.rlcIdxD y d) :=
  disp_inside _ _ _ d

theorem EncodeLength.rrcIdxD (y : Idx) (d : Disp) : EncodeLength.Statement (.rrcIdxD y d) :=
  disp_inside _ _ _ d

theorem EncodeLength.rlIdxD (y : Idx) (d : Disp) : EncodeLength.Statement (.rlIdxD y d) :=
  disp_inside _ _ _ d

theorem EncodeLength.rrIdxD (y : Idx) (d : Disp) : EncodeLength.Statement (.rrIdxD y d) :=
  disp_inside _ _ _ d

theorem EncodeLength.slaIdxD (y : Idx) (d : Disp) : EncodeLength.Statement (.slaIdxD y d) :=
  disp_inside _ _ _ d

theorem EncodeLength.sraIdxD (y : Idx) (d : Disp) : EncodeLength.Statement (.sraIdxD y d) :=
  disp_inside _ _ _ d

theorem EncodeLength.srlIdxD (y : Idx) (d : Disp) : EncodeLength.Statement (.srlIdxD y d) :=
  disp_inside _ _ _ d

theorem EncodeLength.bitBIdxD (b : BitVec 3) (y : Idx) (d : Disp) : EncodeLength.Statement (.bitBIdxD b y d) :=
  disp_inside _ _ _ d

theorem EncodeLength.resBIdxD (b : BitVec 3) (y : Idx) (d : Disp) : EncodeLength.Statement (.resBIdxD b y d) :=
  disp_inside _ _ _ d

theorem EncodeLength.setBIdxD (b : BitVec 3) (y : Idx) (d : Disp) : EncodeLength.Statement (.setBIdxD b y d) :=
  disp_inside _ _ _ d

theorem EncodeLength.rlcwIdxD (y : Idx) (d : Disp) : EncodeLength.Statement (.rlcwIdxD y d) :=
  disp_inside _ _ _ d

theorem EncodeLength.rlcwWop (x : WordOp) : EncodeLength.Statement (.rlcwWop x) :=
  ⟨Nat.le_add_left _ _, Nat.le_of_ble_eq_true rfl⟩

theorem EncodeLength.rrcwIdxD (y : Idx) (d : Disp) : EncodeLength.Statement (.rrcwIdxD y d) :=
  disp_inside _ _ _ d

theorem EncodeLength.rrcwWop (x : WordOp) : EncodeLength.Statement (.rrcwWop x) :=
  ⟨Nat.le_add_left _ _, Nat.le_of_ble_eq_true rfl⟩

theorem EncodeLength.rlwIdxD (y : Idx) (d : Disp) : EncodeLength.Statement (.rlwIdxD y d) :=
  disp_inside _ _ _ d

theorem EncodeLength.rlwWop (x : WordOp) : EncodeLength.Statement (.rlwWop x) :=
  ⟨Nat.le_add_left _ _, Nat.le_of_ble_eq_true rfl⟩

theorem EncodeLength.rrwIdxD (y : Idx) (d : Disp) : EncodeLength.Statement (.rrwIdxD y d) :=
  disp_inside _ _ _ d

theorem EncodeLength.rrwWop (x : WordOp) : EncodeLength.Statement (.rrwWop x) :=
  ⟨Nat.le_add_left _ _, Nat.le_of_ble_eq_true rfl⟩

theorem EncodeLength.slawIdxD (y : Idx) (d : Disp) : EncodeLength.Statement (.slawIdxD y d) :=
  disp_inside _ _ _ d

theorem EncodeLength.slawWop (x : WordOp) : EncodeLength.Statement (.slawWop x) :=
  ⟨Nat.le_add_left _ _, Nat.le_of_ble_eq_true rfl⟩

theorem EncodeLength.srawIdxD (y : Idx) (d : Disp) : EncodeLength.Statement (.srawIdxD y d) :=
  disp_inside _ _ _ d

theorem EncodeLength.srawWop (x : WordOp) : EncodeLength.Statement (.srawWop x) :=
  ⟨Nat.le_add_left _ _, Nat.le_of_ble_eq_true rfl⟩

theorem EncodeLength.srlwIdxD (y : Idx) (d : Disp) : EncodeLength.Statement (.srlwIdxD y d) :=
  disp_inside _ _ _ d

theorem EncodeLength.srlwWop (x : WordOp) : EncodeLength.Statement (.srlwWop x) :=
  ⟨Nat.le_add_left _ _, Nat.le_of_ble_eq_true rfl⟩

theorem EncodeLength.ldPpSpD (pp : Pair) (d : Disp) : EncodeLength.Statement (.ldPpSpD pp d) :=
  disp_inside _ _ _ d

theorem EncodeLength.ldXySpD (y : Idx) (d : Disp) : EncodeLength.Statement (.ldXySpD y d) :=
  disp_inside _ _ _ d

theorem EncodeLength.ldPpIdxD (pp : Pair) (y : Idx) (d : Disp) : EncodeLength.Statement (.ldPpIdxD pp y d) :=
  disp_inside _ _ _ d

theorem EncodeLength.ldYxIdxD (y : Idx) (d : Disp) : EncodeLength.Statement (.ldYxIdxD y d) :=
  disp_inside _ _ _ d

theorem EncodeLength.ldSpDPp (d : Disp) (pp : Pair) : EncodeLength.Statement (.ldSpDPp d pp) :=
  disp_inside _ _ _ d

theorem EncodeLength.ldSpDXy (d : Disp) (y : Idx) : EncodeLength.Statement (.ldSpDXy d y) :=
  disp_inside _ _ _ d

theorem EncodeLength.ldIdxDPp (y : Idx) (d : Disp) (pp : Pair) : EncodeLength.Statement (.ldIdxDPp y d pp) :=
  disp_inside _ _ _ d

theorem EncodeLength.ldIdxDYx (y : Idx) (d : Disp) : EncodeLength.Statement (.ldIdxDYx y d) :=
  disp_inside _ _ _ d

theorem EncodeLength.multwHlIdxD (y : Idx) (d : Disp) : EncodeLength.Statement (.multwHlIdxD y d) :=
  disp_inside _ _ _ d

theorem EncodeLength.multuwHlIdxD (y : Idx) (d : Disp) : EncodeLength.Statement (.multuwHlIdxD y d) :=
  disp_inside _ _ _ d

theorem EncodeLength.divuwHlIdxD (y : Idx) (d : Disp) : EncodeLength.Statement (.divuwHlIdxD y d) :=
  disp_inside _ _ _ d

theorem EncodeLength.in0RPortN (r : Reg8) (n : BitVec 8) : EncodeLength.Statement (.in0RPortN r n) :=
  ⟨Nat.le_add_left _ _, Nat.le_of_ble_eq_true rfl⟩

theorem EncodeLength.in0PortN (n : BitVec 8) : EncodeLength.Statement (.in0PortN n) :=
  ⟨Nat.le_add_left _ _, Nat.le_of_ble_eq_true rfl⟩

theorem EncodeLength.out0PortNR (n : BitVec 8) (r : Reg8) : EncodeLength.Statement (.out0PortNR n r) :=
  ⟨Nat.le_add_left _ _, Nat.le_of_ble_eq_true rfl⟩

theorem EncodeLength.tstR (r : Reg8) : EncodeLength.Statement (.tstR r) :=
  ⟨Nat.le_add_left _ _, Nat.le_of_ble_eq_true rfl⟩

theorem EncodeLength.tstN (n : BitVec 8) : EncodeLength.Statement (.tstN n) :=
  ⟨Nat.le_add_left _ _, Nat.le_of_ble_eq_true rfl⟩

theorem EncodeLength.ldIndPpNn (pp : Pair) (nn : Imm) : EncodeLength.Statement (.ldIndPpNn pp nn) :=
  imm_ends2 _ _ nn

theorem EncodeLength.exAR (r : Reg8) : EncodeLength.Statement (.exAR r) :=
  ⟨Nat.le_add_left _ _, Nat.le_of_ble_eq_true rfl⟩

theorem EncodeLength.swapPp (pp : Pair) : EncodeLength.Statement (.swapPp pp) :=
  ⟨Nat.le_add_left _ _, Nat.le_of_ble_eq_true rfl⟩

theorem EncodeLength.inRPortC (r : Reg8) : EncodeLength.Statement (.inRPortC r) :=
  ⟨Nat.le_add_left _ _, Nat.le_of_ble_eq_true rfl⟩

theorem EncodeLength.outPortCR (r : Reg8) : EncodeLength.Statement (.outPortCR r) :=
  ⟨Nat.le_add_left _ _, Nat.le_of_ble_eq_true rfl⟩

theorem EncodeLength.outPortCN (n : BitVec 8) : EncodeLength.Statement (.outPortCN n) :=
  ⟨Nat.le_add_left _ _, Nat.le_of_ble_eq_true rfl⟩

theorem EncodeLength.sbcHlDd (dd : Pair4) : EncodeLength.Statement (.sbcHlDd dd) :=
  ⟨Nat.le_add_left _ _, Nat.le_of_ble_eq_true rfl⟩

theorem EncodeLength.adcHlDd (dd : Pair4) : EncodeLength.Statement (.adcHlDd dd) :=
  ⟨Nat.le_add_left _ _, Nat.le_of_ble_eq_true rfl⟩

theorem EncodeLength.ldDirNnDd (nn : Imm) (dd : Pair4) : EncodeLength.Statement (.ldDirNnDd nn dd) :=
  imm_ends2 _ _ nn

theorem EncodeLength.ldDdDirNn (dd : Pair4) (nn : Imm) : EncodeLength.Statement (.ldDdDirNn dd nn) :=
  imm_ends2 _ _ nn

theorem EncodeLength.mltDd (dd : Pair4) : EncodeLength.Statement (.mltDd dd) :=
  ⟨Nat.le_add_left _ _, Nat.le_of_ble_eq_true rfl⟩

theorem EncodeLength.tstioN (n : BitVec 8) : EncodeLength.Statement (.tstioN n) :=
  ⟨Nat.le_add_left _ _, Nat.le_of_ble_eq_true rfl⟩

theorem EncodeLength.addSpNn (nn : Imm) : EncodeLength.Statement (.addSpNn nn) :=
  imm_ends2 _ _ nn

theorem EncodeLength.subSpNn (nn : Imm) : EncodeLength.Statement (.subSpNn nn) :=
  imm_ends2 _ _ nn

theorem EncodeLength.addHlDirNn (nn : Imm) : EncodeLength.Statement (.addHlDirNn nn) :=
  imm_ends2 _ _ nn

theorem EncodeLength.subHlDirNn (nn : Imm) : EncodeLength.Statement (.subHlDirNn nn) :=
  imm_ends2 _ _ nn

theorem EncodeLength.calrCcE8 (cc : Cond) (e : BitVec 8) : EncodeLength.Statement (.calrCcE8 cc e) :=
  ⟨Nat.le_add_left _ _, Nat.le_of_ble_eq_true rfl⟩

theorem EncodeLength.calrE8 (e : BitVec 8) : EncodeLength.Statement (.calrE8 e) :=
  ⟨Nat.le_add_left _ _, Nat.le_of_ble_eq_true rfl⟩

theorem EncodeLength.ldctlDsrN (n : BitVec 8) : EncodeLength.Statement (.ldctlDsrN n) :=
  ⟨Nat.le_add_left _ _, Nat.le_of_ble_eq_true rfl⟩

theorem EncodeLength.outaDirNnA (nn : Imm) : EncodeLength.Statement (.outaDirNnA nn) :=
  imm_ends2 _ _ nn

theorem EncodeLength.inaADirNn (nn : Imm) : EncodeLength.Statement (.inaADirNn nn) :=
  imm_ends2 _ _ nn

theorem EncodeLength.multwHlWop (x : WordOp) : EncodeLength.Statement (.multwHlWop x) :=
  ⟨Nat.le_add_left _ _, Nat.le_of_ble_eq_true rfl⟩

theorem EncodeLength.multwHlNn (nn : Imm) : EncodeLength.Statement (.multwHlNn nn) :=
  imm_ends3 _ _ _ nn

theorem EncodeLength.multuwHlWop (x : WordOp) : EncodeLength.Statement (.multuwHlWop x) :=
  ⟨Nat.le_add_left _ _, Nat.le_of_ble_eq_true rfl⟩

theorem EncodeLength.multuwHlNn (nn : Imm) : EncodeLength.Statement (.multuwHlNn nn) :=
  imm_ends3 _ _ _ nn

theorem EncodeLength.divuwHlWop (x : WordOp) : EncodeLength.Statement (.divuwHlWop x) :=
  ⟨Nat.le_add_left _ _, Nat.le_of_ble_eq_true rfl⟩

theorem EncodeLength.divuwHlNn (nn : Imm) : EncodeLength.Statement (.divuwHlNn nn) :=
  imm_ends3 _ _ _ nn

theorem EncodeLength.nop : EncodeLength.Statement (.nop) :=
  ⟨Nat.le_of_ble_eq_true rfl, Nat.le_of_ble_eq_true rfl⟩

theorem EncodeLength.ldIndBcA : EncodeLength.Statement (.ldIndBcA) :=
  ⟨Nat.le_of_ble_eq_true rfl, Nat.le_of_ble_eq_true rfl⟩

theorem EncodeLength.ldIndDeA : EncodeLength.Statement (.ldIndDeA) :=
  ⟨Nat.le_of_ble_eq_true rfl, Nat.le_of_ble_eq_true rfl⟩

theorem EncodeLength.ldAIndBc : EncodeLength.Statement (.ldAIndBc) :=
  ⟨Nat.le_of_ble_eq_true rfl, Nat.le_of_ble_eq_true rfl⟩

theorem EncodeLength.ldAIndDe : EncodeLength.Statement (.ldAIndDe) :=
  ⟨Nat.le_of_ble_eq_true rfl, Nat.le_of_ble_eq_true rfl⟩

theorem EncodeLength.incIndHl : EncodeLength.Statement (.incIndHl) :=
  ⟨Nat.le_of_ble_eq_true rfl, Nat.le_of_ble_eq_true rfl⟩

theorem EncodeLength.decIndHl : EncodeLength.Statement (.decIndHl) :=
  ⟨Nat.le_of_ble_eq_true rfl, Nat.le_of_ble_eq_true rfl⟩

theorem EncodeLength.rlca : EncodeLength.Statement (.rlca) :=
  ⟨Nat.le_of_ble_eq_true rfl, Nat.le_of_ble_eq_true rfl⟩

theorem EncodeLength.rrca : EncodeLength.Statement (.rrca) :=
  ⟨Nat.le_of_ble_eq_true rfl, Nat.le_of_ble_eq_true rfl⟩

theorem EncodeLength.rla : EncodeLength.Statement (.rla) :=
  ⟨Nat.le_of_ble_eq_true rfl, Nat.le_of_ble_eq_true rfl⟩

theorem EncodeLength.rra : EncodeLength.Statement (.rra) :=
  ⟨Nat.le_of_ble_eq_true rfl, Nat.le_of_ble_eq_true rfl⟩

theorem EncodeLength.exAfAfAlt : EncodeLength.Statement (.exAfAfAlt) :=
  ⟨Nat.le_of_ble_eq_true rfl, Nat.le_of_ble_eq_true rfl⟩

theorem EncodeLength.daa : EncodeLength.Statement (.daa) :=
  ⟨Nat.le_of_ble_eq_true rfl, Nat.le_of_ble_eq_true rfl⟩

theorem EncodeLength.cpl : EncodeLength.Statement (.cpl) :=
  ⟨Nat.le_of_ble_eq_true rfl, Nat.le_of_ble_eq_true rfl⟩

theorem EncodeLength.scf : EncodeLength.Statement (.scf) :=
  ⟨Nat.le_of_ble_eq_true rfl, Nat.le_of_ble_eq_true rfl⟩

theorem EncodeLength.ccf : EncodeLength.Statement (.ccf) :=
  ⟨Nat.le_of_ble_eq_true rfl, Nat.le_of_ble_eq_true rfl⟩

theorem EncodeLength.halt : EncodeLength.Statement (.halt) :=
  ⟨Nat.le_of_ble_eq_true rfl, Nat.le_of_ble_eq_true rfl⟩

theorem EncodeLength.addAIndHl : EncodeLength.Statement (.addAIndHl) :=
  ⟨Nat.le_of_ble_eq_true rfl, Nat.le_of_ble_eq_true rfl⟩

theorem EncodeLength.adcAIndHl : EncodeLength.Statement (.adcAIndHl) :=
  ⟨Nat.le_of_ble_eq_true rfl, Nat.le_of_ble_eq_true rfl⟩

theorem EncodeLength.subIndHl : EncodeLength.Statement (.subIndHl) :=
  ⟨Nat.le_of_ble_eq_true rfl, Nat.le_of_ble_eq_true rfl⟩

theorem EncodeLength.sbcAIndHl : EncodeLength.Statement (.sbcAIndHl) :=
  ⟨Nat.le_of_ble_eq_true rfl, Nat.le_of_ble_eq_true rfl⟩

theorem EncodeLength.andIndHl : EncodeLength.Statement (.andIndHl) :=
  ⟨Nat.le_of_ble_eq_true rfl, Nat.le_of_ble_eq_true rfl⟩

theorem EncodeLength.xorIndHl : EncodeLength.Statement (.xorIndHl) :=
  ⟨Nat.le_of_ble_eq_true rfl, Nat.le_of_ble_eq_true rfl⟩

theorem EncodeLength.orIndHl : EncodeLength.Statement (.orIndHl) :=
  ⟨Nat.le_of_ble_eq_true rfl, Nat.le_of_ble_eq_true rfl⟩

theorem EncodeLength.cpIndHl : EncodeLength.Statement (.cpIndHl) :=
  ⟨Nat.le_of_ble_eq_true rfl, Nat.le_of_ble_eq_true rfl⟩

theorem EncodeLength.popAf : EncodeLength.Statement (.popAf) :=
  ⟨Nat.le_of_ble_eq_true rfl, Nat.le_of_ble_eq_true rfl⟩

theorem EncodeLength.pushAf : EncodeLength.Statement (.pushAf) :=
  ⟨Nat.le_of_ble_eq_true rfl, Nat.le_of_ble_eq_true rfl⟩

theorem EncodeLength.ret : EncodeLength.Statement (.ret) :=
  ⟨Nat.le_of_ble_eq_true rfl, Nat.le_of_ble_eq_true rfl⟩

theorem EncodeLength.exx : EncodeLength.Statement (.exx) :=
  ⟨Nat.le_of_ble_eq_true rfl, Nat.le_of_ble_eq_true rfl⟩

theorem EncodeLength.exIndSpHl : EncodeLength.Statement (.exIndSpHl) :=
  ⟨Nat.le_of_ble_eq_true rfl, Nat.le_of_ble_eq_true rfl⟩

theorem EncodeLength.jpIndHl : EncodeLength.Statement (.jpIndHl) :=
  ⟨Nat.le_of_ble_eq_true rfl, Nat.le_of_ble_eq_true rfl⟩

theorem EncodeLength.exDeHl : EncodeLength.Statement (.exDeHl) :=
  ⟨Nat.le_of_ble_eq_true rfl, Nat.le_of_ble_eq_true rfl⟩

theorem EncodeLength.di : EncodeLength.Statement (.di) :=
  ⟨Nat.le_of_ble_eq_true rfl, Nat.le_of_ble_eq_true rfl⟩

theorem EncodeLength.ei : EncodeLength.Statement (.ei) :=
  ⟨Nat.le_of_ble_eq_true rfl, Nat.le_of_ble_eq_true rfl⟩

theorem EncodeLength.ldSpHl : EncodeLength.Statement (.ldSpHl) :=
  ⟨Nat.le_of_ble_eq_true rfl, Nat.le_of_ble_eq_true rfl⟩

theorem EncodeLength.rlcIndHl : EncodeLength.Statement (.rlcIndHl) :=
  ⟨Nat.le_of_ble_eq_true rfl, Nat.le_of_ble_eq_true rfl⟩

theorem EncodeLength.rrcIndHl : EncodeLength.Statement (.rrcIndHl) :=
  ⟨Nat.le_of_ble_eq_true rfl, Nat.le_of_ble_eq_true rfl⟩

theorem EncodeLength.rlIndHl : EncodeLength.Statement (.rlIndHl) :=
  ⟨Nat.le_of_ble_eq_true rfl, Nat.le_of_ble_eq_true rfl⟩

theorem EncodeLength.rrIndHl : EncodeLength.Statement (.rrIndHl) :=
  ⟨Nat.le_of_ble_eq_true rfl, Nat.le_of_ble_eq_true rfl⟩

theorem EncodeLength.slaIndHl : EncodeLength.Statement (.slaIndHl) :=
  ⟨Nat.le_of_ble_eq_true rfl, Nat.le_of_ble_eq_true rfl⟩

theorem EncodeLength.sraIndHl : EncodeLength.Statement (.sraIndHl) :=
  ⟨Nat.le_of_ble_eq_true rfl, Nat.le_of_ble_eq_true rfl⟩

theorem EncodeLength.srlIndHl : EncodeLength.Statement (.srlIndHl) :=
  ⟨Nat.le_of_ble_eq_true rfl, Nat.le_of_ble_eq_true rfl⟩

theorem EncodeLength.ldIxIy : EncodeLength.Statement (.ldIxIy) :=
  ⟨Nat.le_of_ble_eq_true rfl, Nat.le_of_ble_eq_true rfl⟩

theorem EncodeLength.ldIyIx : EncodeLength.Statement (.ldIyIx) :=
  ⟨Nat.le_of_ble_eq_true rfl, Nat.le_of_ble_eq_true rfl⟩

theorem EncodeLength.cplw : EncodeLength.Statement (.cplw) :=
  ⟨Nat.le_of_ble_eq_true rfl, Nat.le_of_ble_eq_true rfl⟩

theorem EncodeLength.inwBcPortC : EncodeLength.Statement (.inwBcPortC) :=
  ⟨Nat.le_of_ble_eq_true rfl, Nat.le_of_ble_eq_true rfl⟩

theorem EncodeLength.inwDePortC : EncodeLength.Statement (.inwDePortC) :=
  ⟨Nat.le_of_ble_eq_true rfl, Nat.le_of_ble_eq_true rfl⟩

theorem EncodeLength.inwHlPortC : EncodeLength.Statement (.inwHlPortC) :=
  ⟨Nat.le_of_ble_eq_true rfl, Nat.le_of_ble_eq_true rfl⟩

theorem EncodeLength.outwPortCBc : EncodeLength.Statement (.outwPortCBc) :=
  ⟨Nat.le_of_ble_eq_true rfl, Nat.le_of_ble_eq_true rfl⟩

theorem EncodeLength.outwPortCDe : EncodeLength.Statement (.outwPortCDe) :=
  ⟨Nat.le_of_ble_eq_true rfl, Nat.le_of_ble_eq_true rfl⟩

theorem EncodeLength.outwPortCHl : EncodeLength.Statement (.outwPortCHl) :=
  ⟨Nat.le_of_ble_eq_true rfl, Nat.le_of_ble_eq_true rfl⟩

theorem EncodeLength.ldIHl : EncodeLength.Statement (.ldIHl) :=
  ⟨Nat.le_of_ble_eq_true rfl, Nat.le_of_ble_eq_true rfl⟩

theorem EncodeLength.ldHlI : EncodeLength.Statement (.ldHlI) :=
  ⟨Nat.le_of_ble_eq_true rfl, Nat.le_of_ble_eq_true rfl⟩

theorem EncodeLength.ddirW : EncodeLength.Statement (.ddirW) :=
  ⟨Nat.le_of_ble_eq_true rfl, Nat.le_of_ble_eq_true rfl⟩

theorem EncodeLength.ddirIbW : EncodeLength.Statement (.ddirIbW) :=
  ⟨Nat.le_of_ble_eq_true rfl, Nat.le_of_ble_eq_true rfl⟩

theorem EncodeLength.ddirIwW : EncodeLength.Statement (.ddirIwW) :=
  ⟨Nat.le_of_ble_eq_true rfl, Nat.le_of_ble_eq_true rfl⟩

theorem EncodeLength.ddirIb : EncodeLength.Statement (.ddirIb) :=
  ⟨Nat.le_of_ble_eq_true rfl, Nat.le_of_ble_eq_true rfl⟩

theorem EncodeLength.ddirLw : EncodeLength.Statement (.ddirLw) :=
  ⟨Nat.le_of_ble_eq_true rfl, Nat.le_of_ble_eq_true rfl⟩

theorem EncodeLength.ddirIbLw : EncodeLength.Statement (.ddirIbLw) :=
  ⟨Nat.le_of_ble_eq_true rfl, Nat.le_of_ble_eq_true rfl⟩

theorem EncodeLength.ddirIwLw : EncodeLength.Statement (.ddirIwLw) :=
  ⟨Nat.le_of_ble_eq_true rfl, Nat.le_of_ble_eq_true rfl⟩

theorem EncodeLength.ddirIw : EncodeLength.Statement (.ddirIw) :=
  ⟨Nat.le_of_ble_eq_true rfl, Nat.le_of_ble_eq_true rfl⟩

theorem EncodeLength.ldctlSrA : EncodeLength.Statement (.ldctlSrA) :=
  ⟨Nat.le_of_ble_eq_true rfl, Nat.le_of_ble_eq_true rfl⟩

theorem EncodeLength.mtest : EncodeLength.Statement (.mtest) :=
  ⟨Nat.le_of_ble_eq_true rfl, Nat.le_of_ble_eq_true rfl⟩

theorem EncodeLength.ldctlAXsr : EncodeLength.Statement (.ldctlAXsr) :=
  ⟨Nat.le_of_ble_eq_true rfl, Nat.le_of_ble_eq_true rfl⟩

theorem EncodeLength.ldctlAYsr : EncodeLength.Statement (.ldctlAYsr) :=
  ⟨Nat.le_of_ble_eq_true rfl, Nat.le_of_ble_eq_true rfl⟩

theorem EncodeLength.ldctlXsrA : EncodeLength.Statement (.ldctlXsrA) :=
  ⟨Nat.le_of_ble_eq_true rfl, Nat.le_of_ble_eq_true rfl⟩

theorem EncodeLength.ldctlYsrA : EncodeLength.Statement (.ldctlYsrA) :=
  ⟨Nat.le_of_ble_eq_true rfl, Nat.le_of_ble_eq_true rfl⟩

theorem EncodeLength.exxx : EncodeLength.Statement (.exxx) :=
  ⟨Nat.le_of_ble_eq_true rfl, Nat.le_of_ble_eq_true rfl⟩

theorem EncodeLength.exxy : EncodeLength.Statement (.exxy) :=
  ⟨Nat.le_of_ble_eq_true rfl, Nat.le_of_ble_eq_true rfl⟩

theorem EncodeLength.setcLw : EncodeLength.Statement (.setcLw) :=
  ⟨Nat.le_of_ble_eq_true rfl, Nat.le_of_ble_eq_true rfl⟩

theorem EncodeLength.rescLw : EncodeLength.Statement (.rescLw) :=
  ⟨Nat.le_of_ble_eq_true rfl, Nat.le_of_ble_eq_true rfl⟩

theorem EncodeLength.setcXm : EncodeLength.Statement (.setcXm) :=
  ⟨Nat.le_of_ble_eq_true rfl, Nat.le_of_ble_eq_true rfl⟩

theorem EncodeLength.exBcIx : EncodeLength.Statement (.exBcIx) :=
  ⟨Nat.le_of_ble_eq_true rfl, Nat.le_of_ble_eq_true rfl⟩

theorem EncodeLength.exBcIy : EncodeLength.Statement (.exBcIy) :=
  ⟨Nat.le_of_ble_eq_true rfl, Nat.le_of_ble_eq_true rfl⟩

theorem EncodeLength.exDeIx : EncodeLength.Statement (.exDeIx) :=
  ⟨Nat.le_of_ble_eq_true rfl, Nat.le_of_ble_eq_true rfl⟩

theorem EncodeLength.exDeIy : EncodeLength.Statement (.exDeIy) :=
  ⟨Nat.le_of_ble_eq_true rfl, Nat.le_of_ble_eq_true rfl⟩

theorem EncodeLength.exHlIx : EncodeLength.Statement (.exHlIx) :=
  ⟨Nat.le_of_ble_eq_true rfl, Nat.le_of_ble_eq_true rfl⟩

theorem EncodeLength.exHlIy : EncodeLength.Statement (.exHlIy) :=
  ⟨Nat.le_of_ble_eq_true rfl, Nat.le_of_ble_eq_true rfl⟩

theorem EncodeLength.exIxIy : EncodeLength.Statement (.exIxIy) :=
  ⟨Nat.le_of_ble_eq_true rfl, Nat.le_of_ble_eq_true rfl⟩

theorem EncodeLength.tstIndHl : EncodeLength.Statement (.tstIndHl) :=
  ⟨Nat.le_of_ble_eq_true rfl, Nat.le_of_ble_eq_true rfl⟩

theorem EncodeLength.exBcDe : EncodeLength.Statement (.exBcDe) :=
  ⟨Nat.le_of_ble_eq_true rfl, Nat.le_of_ble_eq_true rfl⟩

theorem EncodeLength.exBcHl : EncodeLength.Statement (.exBcHl) :=
  ⟨Nat.le_of_ble_eq_true rfl, Nat.le_of_ble_eq_true rfl⟩

theorem EncodeLength.exAIndHl : EncodeLength.Statement (.exAIndHl) :=
  ⟨Nat.le_of_ble_eq_true rfl, Nat.le_of_ble_eq_true rfl⟩

theorem EncodeLength.neg : EncodeLength.Statement (.neg) :=
  ⟨Nat.le_of_ble_eq_true rfl, Nat.le_of_ble_eq_true rfl⟩

theorem EncodeLength.negw : EncodeLength.Statement (.negw) :=
  ⟨Nat.le_of_ble_eq_true rfl, Nat.le_of_ble_eq_true rfl⟩

theorem EncodeLength.retn : EncodeLength.Statement (.retn) :=
  ⟨Nat.le_of_ble_eq_true rfl, Nat.le_of_ble_eq_true rfl⟩

theorem EncodeLength.reti : EncodeLength.Statement (.reti) :=
  ⟨Nat.le_of_ble_eq_true rfl, Nat.le_of_ble_eq_true rfl⟩

theorem EncodeLength.im0 : EncodeLength.Statement (.im0) :=
  ⟨Nat.le_of_ble_eq_true rfl, Nat.le_of_ble_eq_true rfl⟩

theorem EncodeLength.im1 : EncodeLength.Statement (.im1) :=
  ⟨Nat.le_of_ble_eq_true rfl, Nat.le_of_ble_eq_true rfl⟩

theorem EncodeLength.im2 : EncodeLength.Statement (.im2) :=
  ⟨Nat.le_of_ble_eq_true rfl, Nat.le_of_ble_eq_true rfl⟩

theorem EncodeLength.im3 : EncodeLength.Statement (.im3) :=
  ⟨Nat.le_of_ble_eq_true rfl, Nat.le_of_ble_eq_true rfl⟩

theorem EncodeLength.ldIA : EncodeLength.Statement (.ldIA) :=
  ⟨Nat.le_of_ble_eq_true rfl, Nat.le_of_ble_eq_true rfl⟩

theorem EncodeLength.ldRA : EncodeLength.Statement (.ldRA) :=
  ⟨Nat.le_of_ble_eq_true rfl, Nat.le_of_ble_eq_true rfl⟩

theorem EncodeLength.ldAI : EncodeLength.Statement (.ldAI) :=
  ⟨Nat.le_of_ble_eq_true rfl, Nat.le_of_ble_eq_true rfl⟩

theorem EncodeLength.ldAR : EncodeLength.Statement (.ldAR) :=
  ⟨Nat.le_of_ble_eq_true rfl, Nat.le_of_ble_eq_true rfl⟩

theorem EncodeLength.exts : EncodeLength.Statement (.exts) :=
  ⟨Nat.le_of_ble_eq_true rfl, Nat.le_of_ble_eq_true rfl⟩

theorem EncodeLength.extsw : EncodeLength.Statement (.extsw) :=
  ⟨Nat.le_of_ble_eq_true rfl, Nat.le_of_ble_eq_true rfl⟩

theorem EncodeLength.rrd : EncodeLength.Statement (.rrd) :=
  ⟨Nat.le_of_ble_eq_true rfl, Nat.le_of_ble_eq_true rfl⟩

theorem EncodeLength.rld : EncodeLength.Statement (.rld) :=
  ⟨Nat.le_of_ble_eq_true rfl, Nat.le_of_ble_eq_true rfl⟩

theorem EncodeLength.slp : EncodeLength.Statement (.slp) :=
  ⟨Nat.le_of_ble_eq_true rfl, Nat.le_of_ble_eq_true rfl⟩

theorem EncodeLength.otim : EncodeLength.Statement (.otim) :=
  ⟨Nat.le_of_ble_eq_true rfl, Nat.le_of_ble_eq_true rfl⟩

theorem EncodeLength.otdm : EncodeLength.Statement (.otdm) :=
  ⟨Nat.le_of_ble_eq_true rfl, Nat.le_of_ble_eq_true rfl⟩

theorem EncodeLength.otimr : EncodeLength.Statement (.otimr) :=
  ⟨Nat.le_of_ble_eq_true rfl, Nat.le_of_ble_eq_true rfl⟩

theorem EncodeLength.otdmr : EncodeLength.Statement (.otdmr) :=
  ⟨Nat.le_of_ble_eq_true rfl, Nat.le_of_ble_eq_true rfl⟩

theorem EncodeLength.ldi : EncodeLength.Statement (.ldi) :=
  ⟨Nat.le_of_ble_eq_true rfl, Nat.le_of_ble_eq_true rfl⟩

theorem EncodeLength.cpi : EncodeLength.Statement (.cpi) :=
  ⟨Nat.le_of_ble_eq_true rfl, Nat.le_of_ble_eq_true rfl⟩

theorem EncodeLength.ini : EncodeLength.Statement (.ini) :=
  ⟨Nat.le_of_ble_eq_true rfl, Nat.le_of_ble_eq_true rfl⟩

theorem EncodeLength.outi : EncodeLength.Statement (.outi) :=
  ⟨Nat.le_of_ble_eq_true rfl, Nat.le_of_ble_eq_true rfl⟩

theorem EncodeLength.ldd : EncodeLength.Statement (.ldd) :=
  ⟨Nat.le_of_ble_eq_true rfl, Nat.le_of_ble_eq_true rfl⟩

theorem EncodeLength.cpd : EncodeLength.Statement (.cpd) :=
  ⟨Nat.le_of_ble_eq_true rfl, Nat.le_of_ble_eq_true rfl⟩

theorem EncodeLength.ind : EncodeLength.Statement (.ind) :=
  ⟨Nat.le_of_ble_eq_true rfl, Nat.le_of_ble_eq_true rfl⟩

theorem EncodeLength.outd : EncodeLength.Statement (.outd) :=
  ⟨Nat.le_of_ble_eq_true rfl, Nat.le_of_ble_eq_true rfl⟩

theorem EncodeLength.ldir : EncodeLength.Statement (.ldir) :=
  ⟨Nat.le_of_ble_eq_true rfl, Nat.le_of_ble_eq_true rfl⟩

theorem EncodeLength.cpir : EncodeLength.Statement (.cpir) :=
  ⟨Nat.le_of_ble_eq_true rfl, Nat.le_of_ble_eq_true rfl⟩

theorem EncodeLength.inir : EncodeLength.Statement (.inir) :=
  ⟨Nat.le_of_ble_eq_true rfl, Nat.le_of_ble_eq_true rfl⟩

theorem EncodeLength.otir : EncodeLength.Statement (.otir) :=
  ⟨Nat.le_of_ble_eq_true rfl, Nat.le_of_ble_eq_true rfl⟩

theorem EncodeLength.lddr : EncodeLength.Statement (.lddr) :=
  ⟨Nat.le_of_ble_eq_true rfl, Nat.le_of_ble_eq_true rfl⟩

theorem EncodeLength.cpdr : EncodeLength.Statement (.cpdr) :=
  ⟨Nat.le_of_ble_eq_true rfl, Nat.le_of_ble_eq_true rfl⟩

theorem EncodeLength.indr : EncodeLength.Statement (.indr) :=
  ⟨Nat.le_of_ble_eq_true rfl, Nat.le_of_ble_eq_true rfl⟩

theorem EncodeLength.otdr : EncodeLength.Statement (.otdr) :=
  ⟨Nat.le_of_ble_eq_true rfl, Nat.le_of_ble_eq_true rfl⟩

theorem EncodeLength.ldctlHlSr : EncodeLength.Statement (.ldctlHlSr) :=
  ⟨Nat.le_of_ble_eq_true rfl, Nat.le_of_ble_eq_true rfl⟩

theorem EncodeLength.ldctlSrHl : EncodeLength.Statement (.ldctlSrHl) :=
  ⟨Nat.le_of_ble_eq_true rfl, Nat.le_of_ble_eq_true rfl⟩

theorem EncodeLength.popSr : EncodeLength.Statement (.popSr) :=
  ⟨Nat.le_of_ble_eq_true rfl, Nat.le_of_ble_eq_true rfl⟩

theorem EncodeLength.pushSr : EncodeLength.Statement (.pushSr) :=
  ⟨Nat.le_of_ble_eq_true rfl, Nat.le_of_ble_eq_true rfl⟩

theorem EncodeLength.btest : EncodeLength.Statement (.btest) :=
  ⟨Nat.le_of_ble_eq_true rfl, Nat.le_of_ble_eq_true rfl⟩

theorem EncodeLength.ldctlADsr : EncodeLength.Statement (.ldctlADsr) :=
  ⟨Nat.le_of_ble_eq_true rfl, Nat.le_of_ble_eq_true rfl⟩

theorem EncodeLength.ldctlDsrA : EncodeLength.Statement (.ldctlDsrA) :=
  ⟨Nat.le_of_ble_eq_true rfl, Nat.le_of_ble_eq_true rfl⟩

theorem EncodeLength.exall : EncodeLength.Statement (.exall) :=
  ⟨Nat.le_of_ble_eq_true rfl, Nat.le_of_ble_eq_true rfl⟩

theorem EncodeLength.ldiw : EncodeLength.Statement (.ldiw) :=
  ⟨Nat.le_of_ble_eq_true rfl, Nat.le_of_ble_eq_true rfl⟩

theorem EncodeLength.lddw : EncodeLength.Statement (.lddw) :=
  ⟨Nat.le_of_ble_eq_true rfl, Nat.le_of_ble_eq_true rfl⟩

theorem EncodeLength.ldirw : EncodeLength.Statement (.ldirw) :=
  ⟨Nat.le_of_ble_eq_true rfl, Nat.le_of_ble_eq_true rfl⟩

theorem EncodeLength.lddrw : EncodeLength.Statement (.lddrw) :=
  ⟨Nat.le_of_ble_eq_true rfl, Nat.le_of_ble_eq_true rfl⟩

theorem EncodeLength.iniw : EncodeLength.Statement (.iniw) :=
  ⟨Nat.le_of_ble_eq_true rfl, Nat.le_of_ble_eq_true rfl⟩

theorem EncodeLength.indw : EncodeLength.Statement (.indw) :=
  ⟨Nat.le_of_ble_eq_true rfl, Nat.le_of_ble_eq_true rfl⟩

theorem EncodeLength.inirw : EncodeLength.Statement (.inirw) :=
  ⟨Nat.le_of_ble_eq_true rfl, Nat.le_of_ble_eq_true rfl⟩

theorem EncodeLength.indrw : EncodeLength.Statement (.indrw) :=
  ⟨Nat.le_of_ble_eq_true rfl, Nat.le_of_ble_eq_true rfl⟩

theorem EncodeLength.outiw : EncodeLength.Statement (.outiw) :=
  ⟨Nat.le_of_ble_eq_true rfl, Nat.le_of_ble_eq_true rfl⟩

theorem EncodeLength.outdw : EncodeLength.Statement (.outdw) :=
  ⟨Nat.le_of_ble_eq_true rfl, Nat.le_of_ble_eq_true rfl⟩

theorem EncodeLength.otirw : EncodeLength.Statement (.otirw) :=
  ⟨Nat.le_of_ble_eq_true rfl, Nat.le_of_ble_eq_true rfl⟩

theorem EncodeLength.otdrw : EncodeLength.Statement (.otdrw) :=
  ⟨Nat.le_of_ble_eq_true rfl, Nat.le_of_ble_eq_true rfl⟩

theorem EncodeLength.setcLck : EncodeLength.Statement (.setcLck) :=
  ⟨Nat.le_of_ble_eq_true rfl, Nat.le_of_ble_eq_true rfl⟩

theorem EncodeLength.rescLck : EncodeLength.Statement (.rescLck) :=
  ⟨Nat.le_of_ble_eq_true rfl, Nat.le_of_ble_eq_true rfl⟩

theorem EncodeLength.exBcBcAlt : EncodeLength.Statement (.exBcBcAlt) :=
  ⟨Nat.le_of_ble_eq_true rfl, Nat.le_of_ble_eq_true rfl⟩

theorem EncodeLength.exDeDeAlt : EncodeLength.Statement (.exDeDeAlt) :=
  ⟨Nat.le_of_ble_eq_true rfl, Nat.le_of_ble_eq_true rfl⟩

theorem EncodeLength.exHlHlAlt : EncodeLength.Statement (.exHlHlAlt) :=
  ⟨Nat.le_of_ble_eq_true rfl, Nat.le_of_ble_eq_true rfl⟩

theorem EncodeLength.exIxIxAlt : EncodeLength.Statement (.exIxIxAlt) :=
  ⟨Nat.le_of_ble_eq_true rfl, Nat.le_of_ble_eq_true rfl⟩

theorem EncodeLength.exIyIyAlt : EncodeLength.Statement (.exIyIyAlt) :=
  ⟨Nat.le_of_ble_eq_true rfl, Nat.le_of_ble_eq_true rfl⟩

end Sys2Proof.Laws
end

