-- ==== Sys2Proof/Tests/Slice0.lean ====
section
/-! SUPPORT. Tests: ill-formed terms refused, words decoded, the vectors of `spec/95_test_vectors.md` one step each, and a
witness for the hypotheses of every statement. -/

namespace Sys2Proof.Machine

/-- A state with bytes of memory set. -/
def State.holding (s : State) (a : Long) : List Byte → State
  | [] => s
  | b :: bs => (s.writeByte a b).holding (a + 1) bs

/-- A state whose ports answer these words. -/
def State.answered (s : State) (ws : List Word) : State := { s with portIn := ws }

end Sys2Proof.Machine

namespace Sys2Proof.Tests

open Sys2Proof.Machine

/-! ## Ill-formed terms -/

theorem test_illFormed_jrE8 : (Instr.jrCcE8 .po 0).wf = false := by decide

theorem test_illFormed_jrE16 : (Instr.jrCcE16 .m 0).wf = false := by decide

theorem test_illFormed_jrE24 : (Instr.jrCcE24 .pe 0).wf = false := by decide

theorem test_illFormed_ldHalf : (Instr.ldHalfS .ix .u (.reg .h)).wf = false := by decide

theorem test_illFormed_ldFromHalf : (Instr.ldRHalf .l .iy .l).wf = false := by decide

theorem test_illFormed_multw : (Instr.multwHlWop .indHl).wf = false := by decide

theorem test_illFormed_multuw : (Instr.multuwHlWop .indHl).wf = false := by decide

theorem test_illFormed_divuw : (Instr.divuwHlWop .indHl).wf = false := by decide

theorem test_illFitting_displacement : (Instr.ldRIdxD .e .ix (.d16 0x1234)).fits .zero = false := by decide

theorem test_illFitting_immediate : (Instr.jpNn (.i16 0x1234)).fits .iw = false := by decide

/-! ## Words written out from the encodings of `spec/30_encoding.md` and of the rules -/

/-- Bytes read as an instruction with nothing left. -/
def reads (e : Ext) (bs : List Byte) (i : Instr) : Bool :=
  match decode e bs with
  | .ok (j, rest) => decide (j = i) && rest.isEmpty
  | .error _ => false

/-- Bytes that are no instruction. -/
def refuses (bs : List Byte) : Bool :=
  match decode .zero bs with
  | .ok _ => false
  | .error _ => true

/-- LD r,r' is 01dddsss; LD (XY+d),n has the displacement first. -/
theorem test_words_load8 :
    (reads .zero [0b01111000] (.ldRR .a .b) &&
      reads .zero [0b11011101, 0x36, 0x02, 0x99] (.ldIdxDN .ix (.d8 2) 0x99) &&
      reads .iw [0xDD, 0x5E, 0x56, 0x34, 0x12] (.ldRIdxD .e .ix (.d24 0x123456))) = true := by decide

/-- LD dd,nn is 00dd0001; LD pp,(SP+d) is DD CB d 00pp0001. -/
theorem test_words_load16 :
    (reads .zero [0b00110001, 0xFE, 0xFF] (.ldDdNn .sp (.i16 0xFFFE)) &&
      reads .zero [0xDD, 0xCB, 0x02, 0b00010001] (.ldPpSpD .de (.d8 2))) = true := by decide

/-- PUSH qq is 11qq0101, POP qq 11qq0001. -/
theorem test_words_stack :
    (reads .zero [0b11000101] (.pushQq .bc) &&
      reads .zero [0b11100001] (.popQq .hl)) = true := by decide

/-- EX r,r' is CB 00110rrr; SWAP pp ED 00pp1110. -/
theorem test_words_exchange :
    (reads .zero [0xCB, 0b00110000] (.exRRAlt .b) &&
      reads .zero [0xED, 0b00111110] (.swapPp .hl)) = true := by decide

/-- ED 101xx0yy and ED 111xx000. -/
theorem test_words_block :
    (reads .zero [0xED, 0xB0] .ldir &&
      reads .zero [0xED, 0xB9] .cpdr &&
      reads .zero [0xED, 0xE8] .lddw) = true := by decide

/-- ADD A,r is 10000sss; CP n is FEh. -/
theorem test_words_alu8 :
    (reads .zero [0b10000001] (.addAR .c) &&
      reads .zero [0xFE, 0x42] (.cpN 0x42) &&
      reads .zero [0xDD, 0x84] (.addAHalf .ix .u)) = true := by decide

/-- IM 3 is ED 4Eh; EI n is DD FB n. -/
theorem test_words_control :
    (reads .zero [0xED, 0x4E] .im3 &&
      reads .zero [0xDD, 0xFB, 0x03] (.eiN 3) &&
      reads .zero [0xDD, 0xCA, 0x00] (.ldctlSrN 0)) = true := by decide

/-- DD C3h is DDIR IB, FD C2h DDIR IW,LW. -/
theorem test_words_directive :
    (reads .zero [0xDD, 0xC3] .ddirIb &&
      reads .zero [0xFD, 0xC2] .ddirIwLw) = true := by decide

/-- ADD HL,ss is 00ss1001; SBC HL,ss ED 01ss0010. -/
theorem test_words_alu16 :
    (reads .zero [0b00011001] (.addHlDd .de) &&
      reads .zero [0xED, 0b01010010] (.sbcHlDd .de) &&
      reads .zero [0xED, 0x86, 0x00, 0x80] (.addwHlNn (.i16 0x8000))) = true := by decide

/-- MULTW HL,x is ED CB 10010xxx, DIVUW HL,nn ED CB BFh. -/
theorem test_words_muldiv :
    (reads .zero [0xED, 0xCB, 0b10010011] (.multwHlWop .hl) &&
      reads .zero [0xED, 0xCB, 0xBF, 0x07, 0x00] (.divuwHlNn (.i16 7))) = true := by decide

/-- RLC r is CB 00000rrr; SRLW (XY+d) DD CB d 3Ah. -/
theorem test_words_rotate :
    (reads .zero [0xCB, 0b00000000] (.rlcR .b) &&
      reads .zero [0xDD, 0xCB, 0x04, 0x3A] (.srlwIdxD .ix (.d8 4))) = true := by decide

/-- BIT b,r is CB 01bbbrrr; SET b,(XY+d) FD CB d 11bbb110. -/
theorem test_words_bit :
    (reads .zero [0xCB, 0b01010000] (.bitBR 2 .b) &&
      reads .ib [0xFD, 0xCB, 0x00, 0x01, 0b11000110] (.setBIdxD 0 .iy (.d16 0x0100))) = true := by decide

/-- CALR cc,ee is DD 11ccc100; RST p 11ttt111. -/
theorem test_words_jump :
    (reads .zero [0xDD, 0b11101100, 0x00, 0x01] (.calrCcE16 .pe 0x0100) &&
      reads .zero [0b11111111] (.rstP 7) &&
      reads .zero [0xFD, 0x20, 0x00, 0x01, 0x00] (.jrCcE24 .nz 0x000100)) = true := by decide

/-- IN r,(C) is ED 01rrr000; IN0 r,(n) ED 00rrr000. -/
theorem test_words_io :
    (reads .zero [0xED, 0b01010000] (.inRPortC .d) &&
      reads .zero [0xED, 0b00111000, 0x17] (.in0RPortN .a 0x17) &&
      reads .zero [0xFD, 0x79, 0x34, 0x12] (.outwPortCNn (.i16 0x1234))) = true := by decide

/-! Every row of `spec/opcode_table.json`, in its order: its fixed bits with its fields filled by hand from its value maps; the
words are made from the table, not by `encode`. -/

theorem test_rows_00 : (
      reads .zero [0x00] .nop &&
      reads .zero [0x21, 0x9A, 0x35] (.ldDdNn .hl (.i16 0x359A)) &&
      reads .zero [0x02] .ldIndBcA &&
      reads .zero [0x12] .ldIndDeA &&
      reads .zero [0x0A] .ldAIndBc &&
      reads .zero [0x1A] .ldAIndDe &&
      reads .zero [0x23] (.incDd .hl) &&
      reads .zero [0x2B] (.decDd .hl) &&
      reads .zero [0x2C] (.incR .l) &&
      reads .zero [0x34] .incIndHl &&
      reads .zero [0x2D] (.decR .l) &&
      reads .zero [0x35] .decIndHl &&
      reads .zero [0x2E, 0x5C] (.ldRN .l 0x5C) &&
      reads .zero [0x36, 0x5C] (.ldIndHlN 0x5C) &&
      reads .zero [0x07] .rlca &&
      reads .zero [0x0F] .rrca &&
      reads .zero [0x17] .rla &&
      reads .zero [0x1F] .rra &&
      reads .zero [0x08] .exAfAfAlt &&
      reads .zero [0x29] (.addHlDd .hl) &&
      reads .zero [0x10, 0x9A] (.djnzE8 0x9A) &&
      reads .zero [0x18, 0x9A] (.jrE8 0x9A) &&
      reads .zero [0x30, 0x9A] (.jrCcE8 .nc 0x9A) &&
      reads .zero [0x22, 0x9A, 0x35] (.ldDirNnHl (.i16 0x359A)) &&
      reads .zero [0x2A, 0x9A, 0x35] (.ldHlDirNn (.i16 0x359A))) = true := by decide

theorem test_rows_01 : (
      reads .zero [0x32, 0x9A, 0x35] (.ldDirNnA (.i16 0x359A)) &&
      reads .zero [0x3A, 0x9A, 0x35] (.ldADirNn (.i16 0x359A)) &&
      reads .zero [0x27] .daa &&
      reads .zero [0x2F] .cpl &&
      reads .zero [0x37] .scf &&
      reads .zero [0x3F] .ccf &&
      reads .zero [0x6D] (.ldRR .l .l) &&
      reads .zero [0x6E] (.ldRIndHl .l) &&
      reads .zero [0x75] (.ldIndHlR .l) &&
      reads .zero [0x76] .halt &&
      reads .zero [0x85] (.addAR .l) &&
      reads .zero [0x86] .addAIndHl &&
      reads .zero [0xC6, 0x5C] (.addAN 0x5C) &&
      reads .zero [0x8D] (.adcAR .l) &&
      reads .zero [0x8E] .adcAIndHl &&
      reads .zero [0xCE, 0x5C] (.adcAN 0x5C) &&
      reads .zero [0x95] (.subR .l) &&
      reads .zero [0x96] .subIndHl &&
      reads .zero [0xD6, 0x5C] (.subN 0x5C) &&
      reads .zero [0x9D] (.sbcAR .l) &&
      reads .zero [0x9E] .sbcAIndHl &&
      reads .zero [0xDE, 0x5C] (.sbcAN 0x5C) &&
      reads .zero [0xA5] (.andR .l) &&
      reads .zero [0xA6] .andIndHl &&
      reads .zero [0xE6, 0x5C] (.andN 0x5C)) = true := by decide

theorem test_rows_02 : (
      reads .zero [0xAD] (.xorR .l) &&
      reads .zero [0xAE] .xorIndHl &&
      reads .zero [0xEE, 0x5C] (.xorN 0x5C) &&
      reads .zero [0xB5] (.orR .l) &&
      reads .zero [0xB6] .orIndHl &&
      reads .zero [0xF6, 0x5C] (.orN 0x5C) &&
      reads .zero [0xBD] (.cpR .l) &&
      reads .zero [0xBE] .cpIndHl &&
      reads .zero [0xFE, 0x5C] (.cpN 0x5C) &&
      reads .zero [0xF0] (.retCc .p) &&
      reads .zero [0xD1] (.popQq .de) &&
      reads .zero [0xF1] .popAf &&
      reads .zero [0xF2, 0x9A, 0x35] (.jpCcNn .p (.i16 0x359A)) &&
      reads .zero [0xC3, 0x9A, 0x35] (.jpNn (.i16 0x359A)) &&
      reads .zero [0xF4, 0x9A, 0x35] (.callCcNn .p (.i16 0x359A)) &&
      reads .zero [0xD5] (.pushQq .de) &&
      reads .zero [0xF5] .pushAf &&
      reads .zero [0xF7] (.rstP 6) &&
      reads .zero [0xC9] .ret &&
      reads .zero [0xCD, 0x9A, 0x35] (.callNn (.i16 0x359A)) &&
      reads .zero [0xD3, 0x5C] (.outPortNA 0x5C) &&
      reads .zero [0xDB, 0x5C] (.inAPortN 0x5C) &&
      reads .zero [0xD9] .exx &&
      reads .zero [0xE3] .exIndSpHl &&
      reads .zero [0xE9] .jpIndHl) = true := by decide

theorem test_rows_03 : (
      reads .zero [0xEB] .exDeHl &&
      reads .zero [0xF3] .di &&
      reads .zero [0xFB] .ei &&
      reads .zero [0xF9] .ldSpHl &&
      reads .zero [0xCB, 0x05] (.rlcR .l) &&
      reads .zero [0xCB, 0x06] .rlcIndHl &&
      reads .zero [0xCB, 0x0D] (.rrcR .l) &&
      reads .zero [0xCB, 0x0E] .rrcIndHl &&
      reads .zero [0xCB, 0x15] (.rlR .l) &&
      reads .zero [0xCB, 0x16] .rlIndHl &&
      reads .zero [0xCB, 0x1D] (.rrR .l) &&
      reads .zero [0xCB, 0x1E] .rrIndHl &&
      reads .zero [0xCB, 0x25] (.slaR .l) &&
      reads .zero [0xCB, 0x26] .slaIndHl &&
      reads .zero [0xCB, 0x2D] (.sraR .l) &&
      reads .zero [0xCB, 0x2E] .sraIndHl &&
      reads .zero [0xCB, 0x3D] (.srlR .l) &&
      reads .zero [0xCB, 0x3E] .srlIndHl &&
      reads .zero [0xCB, 0x35] (.exRRAlt .l) &&
      reads .zero [0xCB, 0x75] (.bitBR 6 .l) &&
      reads .zero [0xCB, 0x76] (.bitBIndHl 6) &&
      reads .zero [0xCB, 0xB5] (.resBR 6 .l) &&
      reads .zero [0xCB, 0xB6] (.resBIndHl 6) &&
      reads .zero [0xCB, 0xF5] (.setBR 6 .l) &&
      reads .zero [0xCB, 0xF6] (.setBIndHl 6)) = true := by decide

theorem test_rows_04 : (
      reads .zero [0xFD, 0x29] (.addXyTt .iy .same) &&
      reads .zero [0xFD, 0x11] (.ldIndPpXy .de .iy) &&
      reads .zero [0xFD, 0x13] (.ldXyIndPp .iy .de) &&
      reads .zero [0xFD, 0x17] (.ldXyPp .iy .de) &&
      reads .zero [0xFD, 0x1B] (.ldPpXy .de .iy) &&
      reads .zero [0xDD, 0x1D] (.ldPpIndUu .de .de) &&
      reads .zero [0xFD, 0x1D] (.ldIndPpUu .de .de) &&
      reads .zero [0xED, 0x12] (.ldPpBc .de) &&
      reads .zero [0xDD, 0x12] (.ldPpDe .de) &&
      reads .zero [0xFD, 0x12] (.ldPpHl .de) &&
      reads .zero [0xDD, 0x10, 0x9A, 0x35] (.djnzE16 0x359A) &&
      reads .zero [0xFD, 0x10, 0x9A, 0x35, 0x12] (.djnzE24 0x12359A) &&
      reads .zero [0xDD, 0x18, 0x9A, 0x35] (.jrE16 0x359A) &&
      reads .zero [0xFD, 0x18, 0x9A, 0x35, 0x12] (.jrE24 0x12359A) &&
      reads .zero [0xDD, 0x30, 0x9A, 0x35] (.jrCcE16 .nc 0x359A) &&
      reads .zero [0xFD, 0x30, 0x9A, 0x35, 0x12] (.jrCcE24 .nc 0x12359A) &&
      reads .zero [0xFD, 0x21, 0x9A, 0x35] (.ldXyNn .iy (.i16 0x359A)) &&
      reads .zero [0xFD, 0x22, 0x9A, 0x35] (.ldDirNnXy (.i16 0x359A) .iy) &&
      reads .zero [0xFD, 0x2A, 0x9A, 0x35] (.ldXyDirNn .iy (.i16 0x359A)) &&
      reads .zero [0xFD, 0x23] (.incXy .iy) &&
      reads .zero [0xFD, 0x2B] (.decXy .iy) &&
      reads .zero [0xFD, 0x2C] (.incHalf .iy .l) &&
      reads .zero [0xFD, 0x2D] (.decHalf .iy .l) &&
      reads .zero [0xFD, 0x2E, 0x5C] (.ldHalfN .iy .l 0x5C) &&
      reads .zero [0xDD, 0x27] .ldIxIy) = true := by decide

theorem test_rows_05 : (
      reads .zero [0xFD, 0x27] .ldIyIx &&
      reads .zero [0xDD, 0x2F] .cplw &&
      reads .zero [0xFD, 0x34, 0x9A] (.incIdxD .iy (.d8 0x9A)) &&
      reads .zero [0xFD, 0x35, 0x9A] (.decIdxD .iy (.d8 0x9A)) &&
      reads .zero [0xFD, 0x36, 0x9A, 0x5C] (.ldIdxDN .iy (.d8 0x9A) 0x5C) &&
      reads .zero [0xFD, 0x3E] (.swapXy .iy) &&
      reads .zero [0xDD, 0x40] .inwBcPortC &&
      reads .zero [0xDD, 0x50] .inwDePortC &&
      reads .zero [0xDD, 0x78] .inwHlPortC &&
      reads .zero [0xDD, 0x41] .outwPortCBc &&
      reads .zero [0xDD, 0x51] .outwPortCDe &&
      reads .zero [0xDD, 0x79] .outwPortCHl &&
      reads .zero [0xFD, 0x79, 0x9A, 0x35] (.outwPortCNn (.i16 0x359A)) &&
      reads .zero [0xFD, 0x6D] (.ldHalfS .iy .l (.half .l)) &&
      reads .zero [0xFD, 0x5D] (.ldRHalf .e .iy .l) &&
      reads .zero [0xFD, 0x6E, 0x9A] (.ldRIdxD .l .iy (.d8 0x9A)) &&
      reads .zero [0xFD, 0x75, 0x9A] (.ldIdxDR .iy (.d8 0x9A) .l) &&
      reads .zero [0xDD, 0x47] .ldIHl &&
      reads .zero [0xDD, 0x57] .ldHlI &&
      reads .zero [0xFD, 0x85] (.addAHalf .iy .l) &&
      reads .zero [0xFD, 0x86, 0x9A] (.addAIdxD .iy (.d8 0x9A)) &&
      reads .zero [0xFD, 0x8D] (.adcAHalf .iy .l) &&
      reads .zero [0xFD, 0x8E, 0x9A] (.adcAIdxD .iy (.d8 0x9A)) &&
      reads .zero [0xFD, 0x95] (.subHalf .iy .l) &&
      reads .zero [0xFD, 0x96, 0x9A] (.subIdxD .iy (.d8 0x9A))) = true := by decide

theorem test_rows_06 : (
      reads .zero [0xFD, 0x9D] (.sbcAHalf .iy .l) &&
      reads .zero [0xFD, 0x9E, 0x9A] (.sbcAIdxD .iy (.d8 0x9A)) &&
      reads .zero [0xFD, 0xA5] (.andHalf .iy .l) &&
      reads .zero [0xFD, 0xA6, 0x9A] (.andIdxD .iy (.d8 0x9A)) &&
      reads .zero [0xFD, 0xAD] (.xorHalf .iy .l) &&
      reads .zero [0xFD, 0xAE, 0x9A] (.xorIdxD .iy (.d8 0x9A)) &&
      reads .zero [0xFD, 0xB5] (.orHalf .iy .l) &&
      reads .zero [0xFD, 0xB6, 0x9A] (.orIdxD .iy (.d8 0x9A)) &&
      reads .zero [0xFD, 0xBD] (.cpHalf .iy .l) &&
      reads .zero [0xFD, 0xBE, 0x9A] (.cpIdxD .iy (.d8 0x9A)) &&
      reads .zero [0xFD, 0x87] (.addwHlXy .iy) &&
      reads .zero [0xFD, 0xC6, 0x9A] (.addwHlIdxD .iy (.d8 0x9A)) &&
      reads .zero [0xED, 0x85] (.addwHlPp .de) &&
      reads .zero [0xED, 0x86, 0x9A, 0x35] (.addwHlNn (.i16 0x359A)) &&
      reads .zero [0xFD, 0x8F] (.adcwHlXy .iy) &&
      reads .zero [0xFD, 0xCE, 0x9A] (.adcwHlIdxD .iy (.d8 0x9A)) &&
      reads .zero [0xED, 0x8D] (.adcwHlPp .de) &&
      reads .zero [0xED, 0x8E, 0x9A, 0x35] (.adcwHlNn (.i16 0x359A)) &&
      reads .zero [0xFD, 0x97] (.subwHlXy .iy) &&
      reads .zero [0xFD, 0xD6, 0x9A] (.subwHlIdxD .iy (.d8 0x9A)) &&
      reads .zero [0xED, 0x95] (.subwHlPp .de) &&
      reads .zero [0xED, 0x96, 0x9A, 0x35] (.subwHlNn (.i16 0x359A)) &&
      reads .zero [0xFD, 0x9F] (.sbcwHlXy .iy) &&
      reads .zero [0xFD, 0xDE, 0x9A] (.sbcwHlIdxD .iy (.d8 0x9A)) &&
      reads .zero [0xED, 0x9D] (.sbcwHlPp .de)) = true := by decide

theorem test_rows_07 : (
      reads .zero [0xED, 0x9E, 0x9A, 0x35] (.sbcwHlNn (.i16 0x359A)) &&
      reads .zero [0xFD, 0xA7] (.andwHlXy .iy) &&
      reads .zero [0xFD, 0xE6, 0x9A] (.andwHlIdxD .iy (.d8 0x9A)) &&
      reads .zero [0xED, 0xA5] (.andwHlPp .de) &&
      reads .zero [0xED, 0xA6, 0x9A, 0x35] (.andwHlNn (.i16 0x359A)) &&
      reads .zero [0xFD, 0xAF] (.xorwHlXy .iy) &&
      reads .zero [0xFD, 0xEE, 0x9A] (.xorwHlIdxD .iy (.d8 0x9A)) &&
      reads .zero [0xED, 0xAD] (.xorwHlPp .de) &&
      reads .zero [0xED, 0xAE, 0x9A, 0x35] (.xorwHlNn (.i16 0x359A)) &&
      reads .zero [0xFD, 0xB7] (.orwHlXy .iy) &&
      reads .zero [0xFD, 0xF6, 0x9A] (.orwHlIdxD .iy (.d8 0x9A)) &&
      reads .zero [0xED, 0xB5] (.orwHlPp .de) &&
      reads .zero [0xED, 0xB6, 0x9A, 0x35] (.orwHlNn (.i16 0x359A)) &&
      reads .zero [0xFD, 0xBF] (.cpwHlXy .iy) &&
      reads .zero [0xFD, 0xFE, 0x9A] (.cpwHlIdxD .iy (.d8 0x9A)) &&
      reads .zero [0xED, 0xBD] (.cpwHlPp .de) &&
      reads .zero [0xED, 0xBE, 0x9A, 0x35] (.cpwHlNn (.i16 0x359A)) &&
      reads .zero [0xDD, 0xC0] .ddirW &&
      reads .zero [0xDD, 0xC1] .ddirIbW &&
      reads .zero [0xDD, 0xC2] .ddirIwW &&
      reads .zero [0xDD, 0xC3] .ddirIb &&
      reads .zero [0xFD, 0xC0] .ddirLw &&
      reads .zero [0xFD, 0xC1] .ddirIbLw &&
      reads .zero [0xFD, 0xC2] .ddirIwLw &&
      reads .zero [0xFD, 0xC3] .ddirIw) = true := by decide

theorem test_rows_08 : (
      reads .zero [0xDD, 0xF4, 0x9A, 0x35] (.calrCcE16 .p 0x359A) &&
      reads .zero [0xFD, 0xF4, 0x9A, 0x35, 0x12] (.calrCcE24 .p 0x12359A) &&
      reads .zero [0xDD, 0xCD, 0x9A, 0x35] (.calrE16 0x359A) &&
      reads .zero [0xFD, 0xCD, 0x9A, 0x35, 0x12] (.calrE24 0x12359A) &&
      reads .zero [0xDD, 0xC8] .ldctlSrA &&
      reads .zero [0xDD, 0xCA, 0x5C] (.ldctlSrN 0x5C) &&
      reads .zero [0xDD, 0xCF] .mtest &&
      reads .zero [0xDD, 0xD0] .ldctlAXsr &&
      reads .zero [0xFD, 0xD0] .ldctlAYsr &&
      reads .zero [0xDD, 0xD8] .ldctlXsrA &&
      reads .zero [0xFD, 0xD8] .ldctlYsrA &&
      reads .zero [0xDD, 0xDA, 0x5C] (.ldctlXsrN 0x5C) &&
      reads .zero [0xFD, 0xDA, 0x5C] (.ldctlYsrN 0x5C) &&
      reads .zero [0xDD, 0xD9] .exxx &&
      reads .zero [0xFD, 0xD9] .exxy &&
      reads .zero [0xFD, 0xD3, 0x9A, 0x35] (.outawDirNnHl (.i16 0x359A)) &&
      reads .zero [0xFD, 0xDB, 0x9A, 0x35] (.inawHlDirNn (.i16 0x359A)) &&
      reads .zero [0xFD, 0xE1] (.popXy .iy) &&
      reads .zero [0xFD, 0xE3] (.exIndSpXy .iy) &&
      reads .zero [0xFD, 0xE5] (.pushXy .iy) &&
      reads .zero [0xFD, 0xE9] (.jpIndXy .iy) &&
      reads .zero [0xFD, 0xF9] (.ldSpXy .iy) &&
      reads .zero [0xDD, 0xF3, 0x5C] (.diN 0x5C) &&
      reads .zero [0xDD, 0xFB, 0x5C] (.eiN 0x5C) &&
      reads .zero [0xDD, 0xF7] .setcLw) = true := by decide

theorem test_rows_09 : (
      reads .zero [0xDD, 0xFF] .rescLw &&
      reads .zero [0xFD, 0xF7] .setcXm &&
      reads .zero [0xFD, 0xF5, 0x9A, 0x35] (.pushNn (.i16 0x359A)) &&
      reads .zero [0xFD, 0xCB, 0x9A, 0x06] (.rlcIdxD .iy (.d8 0x9A)) &&
      reads .zero [0xFD, 0xCB, 0x9A, 0x0E] (.rrcIdxD .iy (.d8 0x9A)) &&
      reads .zero [0xFD, 0xCB, 0x9A, 0x16] (.rlIdxD .iy (.d8 0x9A)) &&
      reads .zero [0xFD, 0xCB, 0x9A, 0x1E] (.rrIdxD .iy (.d8 0x9A)) &&
      reads .zero [0xFD, 0xCB, 0x9A, 0x26] (.slaIdxD .iy (.d8 0x9A)) &&
      reads .zero [0xFD, 0xCB, 0x9A, 0x2E] (.sraIdxD .iy (.d8 0x9A)) &&
      reads .zero [0xFD, 0xCB, 0x9A, 0x3E] (.srlIdxD .iy (.d8 0x9A)) &&
      reads .zero [0xFD, 0xCB, 0x9A, 0x76] (.bitBIdxD 6 .iy (.d8 0x9A)) &&
      reads .zero [0xFD, 0xCB, 0x9A, 0xB6] (.resBIdxD 6 .iy (.d8 0x9A)) &&
      reads .zero [0xFD, 0xCB, 0x9A, 0xF6] (.setBIdxD 6 .iy (.d8 0x9A)) &&
      reads .zero [0xFD, 0xCB, 0x9A, 0x02] (.rlcwIdxD .iy (.d8 0x9A)) &&
      reads .zero [0xED, 0xCB, 0x04] (.rlcwWop .ix) &&
      reads .zero [0xFD, 0xCB, 0x9A, 0x0A] (.rrcwIdxD .iy (.d8 0x9A)) &&
      reads .zero [0xED, 0xCB, 0x0C] (.rrcwWop .ix) &&
      reads .zero [0xFD, 0xCB, 0x9A, 0x12] (.rlwIdxD .iy (.d8 0x9A)) &&
      reads .zero [0xED, 0xCB, 0x14] (.rlwWop .ix) &&
      reads .zero [0xFD, 0xCB, 0x9A, 0x1A] (.rrwIdxD .iy (.d8 0x9A)) &&
      reads .zero [0xED, 0xCB, 0x1C] (.rrwWop .ix) &&
      reads .zero [0xFD, 0xCB, 0x9A, 0x22] (.slawIdxD .iy (.d8 0x9A)) &&
      reads .zero [0xED, 0xCB, 0x24] (.slawWop .ix) &&
      reads .zero [0xFD, 0xCB, 0x9A, 0x2A] (.srawIdxD .iy (.d8 0x9A)) &&
      reads .zero [0xED, 0xCB, 0x2C] (.srawWop .ix)) = true := by decide

theorem test_rows_10 : (
      reads .zero [0xFD, 0xCB, 0x9A, 0x3A] (.srlwIdxD .iy (.d8 0x9A)) &&
      reads .zero [0xED, 0xCB, 0x3C] (.srlwWop .ix) &&
      reads .zero [0xDD, 0xCB, 0x9A, 0x11] (.ldPpSpD .de (.d8 0x9A)) &&
      reads .zero [0xFD, 0xCB, 0x9A, 0x21] (.ldXySpD .iy (.d8 0x9A)) &&
      reads .zero [0xFD, 0xCB, 0x9A, 0x13] (.ldPpIdxD .de .iy (.d8 0x9A)) &&
      reads .zero [0xFD, 0xCB, 0x9A, 0x23] (.ldYxIdxD .iy (.d8 0x9A)) &&
      reads .zero [0xDD, 0xCB, 0x9A, 0x19] (.ldSpDPp (.d8 0x9A) .de) &&
      reads .zero [0xFD, 0xCB, 0x9A, 0x29] (.ldSpDXy (.d8 0x9A) .iy) &&
      reads .zero [0xFD, 0xCB, 0x9A, 0x1B] (.ldIdxDPp .iy (.d8 0x9A) .de) &&
      reads .zero [0xFD, 0xCB, 0x9A, 0x2B] (.ldIdxDYx .iy (.d8 0x9A)) &&
      reads .zero [0xFD, 0xCB, 0x9A, 0x92] (.multwHlIdxD .iy (.d8 0x9A)) &&
      reads .zero [0xFD, 0xCB, 0x9A, 0x9A] (.multuwHlIdxD .iy (.d8 0x9A)) &&
      reads .zero [0xFD, 0xCB, 0x9A, 0xBA] (.divuwHlIdxD .iy (.d8 0x9A)) &&
      reads .zero [0xED, 0x28, 0x5C] (.in0RPortN .l 0x5C) &&
      reads .zero [0xED, 0x30, 0x5C] (.in0PortN 0x5C) &&
      reads .zero [0xED, 0x29, 0x5C] (.out0PortNR 0x5C .l) &&
      reads .zero [0xED, 0x03] .exBcIx &&
      reads .zero [0xED, 0x0B] .exBcIy &&
      reads .zero [0xED, 0x13] .exDeIx &&
      reads .zero [0xED, 0x1B] .exDeIy &&
      reads .zero [0xED, 0x33] .exHlIx &&
      reads .zero [0xED, 0x3B] .exHlIy &&
      reads .zero [0xED, 0x2B] .exIxIy &&
      reads .zero [0xED, 0x2C] (.tstR .l) &&
      reads .zero [0xED, 0x34] .tstIndHl) = true := by decide

theorem test_rows_11 : (
      reads .zero [0xED, 0x64, 0x5C] (.tstN 0x5C) &&
      reads .zero [0xED, 0x05] .exBcDe &&
      reads .zero [0xED, 0x0D] .exBcHl &&
      reads .zero [0xED, 0x16, 0x9A, 0x35] (.ldIndPpNn .de (.i16 0x359A)) &&
      reads .zero [0xED, 0x2F] (.exAR .l) &&
      reads .zero [0xED, 0x37] .exAIndHl &&
      reads .zero [0xED, 0x1E] (.swapPp .de) &&
      reads .zero [0xED, 0x68] (.inRPortC .l) &&
      reads .zero [0xED, 0x69] (.outPortCR .l) &&
      reads .zero [0xED, 0x71, 0x5C] (.outPortCN 0x5C) &&
      reads .zero [0xED, 0x62] (.sbcHlDd .hl) &&
      reads .zero [0xED, 0x6A] (.adcHlDd .hl) &&
      reads .zero [0xED, 0x63, 0x9A, 0x35] (.ldDirNnDd (.i16 0x359A) .hl) &&
      reads .zero [0xED, 0x6B, 0x9A, 0x35] (.ldDdDirNn .hl (.i16 0x359A)) &&
      reads .zero [0xED, 0x44] .neg &&
      reads .zero [0xED, 0x54] .negw &&
      reads .zero [0xED, 0x45] .retn &&
      reads .zero [0xED, 0x4D] .reti &&
      reads .zero [0xED, 0x46] .im0 &&
      reads .zero [0xED, 0x56] .im1 &&
      reads .zero [0xED, 0x5E] .im2 &&
      reads .zero [0xED, 0x4E] .im3 &&
      reads .zero [0xED, 0x47] .ldIA &&
      reads .zero [0xED, 0x4F] .ldRA &&
      reads .zero [0xED, 0x57] .ldAI) = true := by decide

theorem test_rows_12 : (
      reads .zero [0xED, 0x5F] .ldAR &&
      reads .zero [0xED, 0x6C] (.mltDd .hl) &&
      reads .zero [0xED, 0x65] .exts &&
      reads .zero [0xED, 0x75] .extsw &&
      reads .zero [0xED, 0x67] .rrd &&
      reads .zero [0xED, 0x6F] .rld &&
      reads .zero [0xED, 0x74, 0x5C] (.tstioN 0x5C) &&
      reads .zero [0xED, 0x76] .slp &&
      reads .zero [0xED, 0x82, 0x9A, 0x35] (.addSpNn (.i16 0x359A)) &&
      reads .zero [0xED, 0x92, 0x9A, 0x35] (.subSpNn (.i16 0x359A)) &&
      reads .zero [0xED, 0x83] .otim &&
      reads .zero [0xED, 0x8B] .otdm &&
      reads .zero [0xED, 0x93] .otimr &&
      reads .zero [0xED, 0x9B] .otdmr &&
      reads .zero [0xED, 0xA0] .ldi &&
      reads .zero [0xED, 0xA1] .cpi &&
      reads .zero [0xED, 0xA2] .ini &&
      reads .zero [0xED, 0xA3] .outi &&
      reads .zero [0xED, 0xA8] .ldd &&
      reads .zero [0xED, 0xA9] .cpd &&
      reads .zero [0xED, 0xAA] .ind &&
      reads .zero [0xED, 0xAB] .outd &&
      reads .zero [0xED, 0xB0] .ldir &&
      reads .zero [0xED, 0xB1] .cpir &&
      reads .zero [0xED, 0xB2] .inir) = true := by decide

theorem test_rows_13 : (
      reads .zero [0xED, 0xB3] .otir &&
      reads .zero [0xED, 0xB8] .lddr &&
      reads .zero [0xED, 0xB9] .cpdr &&
      reads .zero [0xED, 0xBA] .indr &&
      reads .zero [0xED, 0xBB] .otdr &&
      reads .zero [0xED, 0xC0] .ldctlHlSr &&
      reads .zero [0xED, 0xC8] .ldctlSrHl &&
      reads .zero [0xED, 0xC1] .popSr &&
      reads .zero [0xED, 0xC5] .pushSr &&
      reads .zero [0xED, 0xC6, 0x9A, 0x35] (.addHlDirNn (.i16 0x359A)) &&
      reads .zero [0xED, 0xD6, 0x9A, 0x35] (.subHlDirNn (.i16 0x359A)) &&
      reads .zero [0xED, 0xF4, 0x9A] (.calrCcE8 .p 0x9A) &&
      reads .zero [0xED, 0xCD, 0x9A] (.calrE8 0x9A) &&
      reads .zero [0xED, 0xCF] .btest &&
      reads .zero [0xED, 0xD0] .ldctlADsr &&
      reads .zero [0xED, 0xD8] .ldctlDsrA &&
      reads .zero [0xED, 0xDA, 0x5C] (.ldctlDsrN 0x5C) &&
      reads .zero [0xED, 0xD3, 0x9A, 0x35] (.outaDirNnA (.i16 0x359A)) &&
      reads .zero [0xED, 0xDB, 0x9A, 0x35] (.inaADirNn (.i16 0x359A)) &&
      reads .zero [0xED, 0xD9] .exall &&
      reads .zero [0xED, 0xE0] .ldiw &&
      reads .zero [0xED, 0xE8] .lddw &&
      reads .zero [0xED, 0xF0] .ldirw &&
      reads .zero [0xED, 0xF8] .lddrw &&
      reads .zero [0xED, 0xE2] .iniw) = true := by decide

theorem test_rows_14 : (
      reads .zero [0xED, 0xEA] .indw &&
      reads .zero [0xED, 0xF2] .inirw &&
      reads .zero [0xED, 0xFA] .indrw &&
      reads .zero [0xED, 0xE3] .outiw &&
      reads .zero [0xED, 0xEB] .outdw &&
      reads .zero [0xED, 0xF3] .otirw &&
      reads .zero [0xED, 0xFB] .otdrw &&
      reads .zero [0xED, 0xF7] .setcLck &&
      reads .zero [0xED, 0xFF] .rescLck &&
      reads .zero [0xED, 0xCB, 0x30] .exBcBcAlt &&
      reads .zero [0xED, 0xCB, 0x31] .exDeDeAlt &&
      reads .zero [0xED, 0xCB, 0x33] .exHlHlAlt &&
      reads .zero [0xED, 0xCB, 0x34] .exIxIxAlt &&
      reads .zero [0xED, 0xCB, 0x35] .exIyIyAlt &&
      reads .zero [0xED, 0xCB, 0x94] (.multwHlWop .ix) &&
      reads .zero [0xED, 0xCB, 0x97, 0x9A, 0x35] (.multwHlNn (.i16 0x359A)) &&
      reads .zero [0xED, 0xCB, 0x9C] (.multuwHlWop .ix) &&
      reads .zero [0xED, 0xCB, 0x9F, 0x9A, 0x35] (.multuwHlNn (.i16 0x359A)) &&
      reads .zero [0xED, 0xCB, 0xBC] (.divuwHlWop .ix) &&
      reads .zero [0xED, 0xCB, 0xBF, 0x9A, 0x35] (.divuwHlNn (.i16 0x359A))) = true := by decide

/-- R160: ED FEh has no row, a lone prefix is no instruction, JR takes no condition PO. -/
theorem test_unassigned : (refuses [0xED, 0xFE] && refuses [0xED] && refuses [0xDD, 0xDD]) = true := by decide

/-- The encoder writes the word the rule prints (V22 without its directive). -/
theorem test_encode : encode (.ldDdNn .bc (.i32 0x89ABCDEF)) = [0x01, 0xEF, 0xCD, 0xAB, 0x89] := by decide

/-- The number of a row of one byte, NOP. -/
theorem test_tableWord : decodeTableWord 8 0x00 = some .nop := by decide

/-! ## Vectors -/

/-- The start state of the vectors: reset, with the instruction at 0100h. -/
def base : State := { State.reset with pc := 0x100 }

/-- Bytes of memory. -/
def bytesAt (s : State) (a : Long) : Nat → List Byte
  | 0 => []
  | n + 1 => s.readByte a :: bytesAt s (a + 1) n

/-- The draw for a bit of F at the first step. -/
def drawn (k : Nat) : Bool := (Config.drawFlags 0).getLsbD k

/-- One step from a state with an instruction at PC leads to a state with a property. -/
def goes (s : State) (bs : List Byte) (p : State → Bool) : Bool :=
  match step (s.placeAt s.pc bs) with
  | .next t => p t
  | .fault _ => false
  | .refused _ => false

/-- F after one step; expected flags stand in the order S, Z, H, P/V, N, C. -/
def fAfter (s : State) (bs : List Byte) : Option Byte :=
  match step (s.placeAt s.pc bs) with
  | .next t => some t.f
  | .fault _ => none
  | .refused _ => none

theorem test_V1 :
    goes ((base.setReg8 .b 0x12).setReg8 .c 0x34) [0x41] (fun t => decide (t.reg8 .b = 0x34)) = true := by decide

theorem test_V2 : goes base [0x3E, 0x7F] (fun t => decide (t.reg8 .a = 0x7F)) = true := by decide

theorem test_V4 :
    goes ((base.setPair .hl 0x24000).holding 0x24000 [0x77]) [0x7E]
      (fun t => decide (t.reg8 .a = 0x77)) = true := by decide

theorem test_V6 :
    goes ((base.setIdx .ix 0).holding 0xFFFFFFFF [0x21]) [0xDD, 0x5E, 0xFF]
      (fun t => decide (t.reg8 .e = 0x21)) = true := by decide

theorem test_V7 :
    goes ((base.setIdx .iy 0x2000).setReg8 .a 0xC3) [0xFD, 0x77, 0x7F]
      (fun t => decide (bytesAt t 0x207F 1 = [0xC3])) = true := by decide

theorem test_V10 :
    goes ((base.setIdx .ix 0x50000).setDdir (some ⟨none, .ib⟩)) [0xDD, 0x36, 0x02, 0x01, 0x99]
      (fun t => decide (bytesAt t 0x50102 1 = [0x99])) = true := by decide

theorem test_V12 :
    goes (((base.srUpdate 0xFFFFFFFF 0x80).holding 0x123456 [0x42]).setDdir (some ⟨none, .ib⟩)) [0x3A, 0x56, 0x34, 0x12]
      (fun t => decide (t.reg8 .a = 0x42)) = true := by decide

theorem test_V13 :
    goes ((base.setReg8 .a 0x80).setIreg 0x1234) [0xED, 0x47] (fun t => decide (t.ireg = 0x8034)) = true := by decide

theorem test_V14 : goes (base.setIef2 true) [0xED, 0x57] (fun t => decide (t.reg8 .a = 0)) = true := by decide

theorem test_V14_flags :
    fAfter (base.setIef2 true) [0xED, 0x57]
      = some (packFlags ⟨false, true, false, true, false, false⟩ (Config.drawFlags 0)) := rfl

theorem test_V15 : goes (base.setIdx .ix 0x12345678) [0xDD, 0x7C] (fun t => decide (t.reg8 .a = 0x56)) = true := by decide

theorem test_V20 :
    goes (base.setPair .hl 0xAAAA0000) [0x21, 0x34, 0x12] (fun t => decide (t.pair .hl = 0xAAAA1234)) = true := by decide

theorem test_V21 :
    goes ((base.setPair .hl 0xAAAA0000).srUpdate 0xFFFFFFFF 0x40) [0x21, 0x34, 0x12]
      (fun t => decide (t.pair .hl = 0x1234)) = true := by decide

theorem test_V22 :
    goes (base.setDdir (some ⟨some true, .iw⟩)) [0x01, 0xEF, 0xCD, 0xAB, 0x89]
      (fun t => decide (t.pair .bc = 0x89ABCDEF ∧ t.sr = 0)) = true := by decide

theorem test_V23 :
    goes ((base.setPair .bc 0x11110000).setDdir (some ⟨none, .iw⟩)) [0x01, 0xEF, 0xCD, 0xAB, 0x89]
      (fun t => decide (t.pair .bc = 0x1111CDEF)) = true := by decide

theorem test_V27 :
    goes ((base.srUpdate 0xFFFFFFFF 0x40).setPair .de 0xCAFEBABE) [0xED, 0x53, 0x00, 0x30]
      (fun t => decide (bytesAt t 0x3000 4 = [0xBE, 0xBA, 0xFE, 0xCA])) = true := by decide

theorem test_V29 :
    goes ((base.srUpdate 0xFFFFFFFF 0x40).setPair .bc 0x2000) [0xED, 0x06, 0x5A, 0xA5]
      (fun t => decide (bytesAt t 0x2000 4 = [0x5A, 0xA5, 0x00, 0x00])) = true := by decide

theorem test_V31 :
    goes ((base.setPair .hl 0x4000).holding 0x4000 [0x00, 0x50]) [0xDD, 0x3F]
      (fun t => decide (t.pair .hl = 0x5000)) = true := by decide

theorem test_V33 :
    goes ((base.setSp 0xFF00).holding 0xFF02 [0x22, 0x11]) [0xDD, 0xCB, 0x02, 0x11]
      (fun t => decide (t.pair .de = 0x1122 ∧ t.sp = 0xFF00)) = true := by decide

theorem test_V34 :
    goes (((base.srUpdate 0xFFFFFFFF 0x40).setSp 0x8000).setPair .hl 0x01020304) [0xDD, 0xCB, 0x04, 0x39]
      (fun t => decide (bytesAt t 0x8004 4 = [0x04, 0x03, 0x02, 0x01])) = true := by decide

theorem test_V36 :
    goes ((base.setPair .hl 0x124500).setIreg 0x990000) [0xDD, 0x47]
      (fun t => decide (t.ireg = 0x994500)) = true := by decide

theorem test_V39 :
    goes (base.setPair .de 0x5678) [0xD5]
      (fun t => decide (t.sp = 0xFFFE ∧ bytesAt t 0xFFFE 2 = [0x78, 0x56])) = true := by decide

theorem test_V41 :
    goes ((base.srUpdate 0xFFFFFFFF 0x80).setPair .de 0x5678) [0xD5]
      (fun t => decide (t.sp = 0xFFFFFFFE)) = true := by decide

theorem test_V42 :
    goes ((((base.srUpdate 0xFFFFFFFF 0x40).setSp 0x8000).setReg8 .a 0x12).setF 0x34) [0xF5]
      (fun t => decide (t.sp = 0x7FFC ∧ bytesAt t 0x7FFC 4 = [0x34, 0x12, 0x00, 0x00])) = true := by decide

theorem test_V43 :
    goes (((base.srUpdate 0xFFFFFFFF 0x40).setSp 0x7FFC).holding 0x7FFC [0xD7, 0x9C, 0xFF, 0xFF]) [0xF1]
      (fun t => decide (t.reg8 .a = 0x9C ∧ t.f = 0xD7 ∧ t.sp = 0x8000)) = true := by decide

theorem test_V44 :
    goes (((base.setSp 0x7FFE).holding 0x7FFE [0x34, 0x12]).setPair .hl 0xFFFF0000) [0xE1]
      (fun t => decide (t.pair .hl = 0xFFFF1234 ∧ t.sp = 0x8000)) = true := by decide

theorem test_V47 :
    goes (((base.srUpdate 0xFFFFFFFF 0x40).setSp 0x8000).setDdir (some ⟨none, .iw⟩)) [0xFD, 0xF5, 0xEF, 0xCD, 0xAB, 0x89]
      (fun t => decide (t.sp = 0x7FFC ∧ bytesAt t 0x7FFC 4 = [0xEF, 0xCD, 0xAB, 0x89])) = true := by decide

theorem test_V48 :
    goes ((base.srUpdate 0xFFFFFFFF 0x100).setSp 0x9000) [0xED, 0xC5]
      (fun t => decide (t.sp = 0x8FFE ∧ bytesAt t 0x8FFE 2 = [0x00, 0x01])) = true := by decide

theorem test_V49 :
    goes (((base.srUpdate 0xFFFFFFFF 0x80).setSp 0x9000).holding 0x9000 [0x7F, 0xFF]) [0xED, 0xC1]
      (fun t => decide (t.sr = 0x070707FB)) = true := by decide

theorem test_V60 :
    goes ((base.setPair .bc 1).setPairAlt .bc 2) [0xD9]
      (fun t => decide (t.sr = 0x100 ∧ t.pair .bc = 2 ∧ t.pairAlt .bc = 1)) = true := by decide

theorem test_V62 :
    goes (((base.setReg8 .a 0x11).setF 1).setAAlt 0x22) [0x08]
      (fun t => decide (t.sr = 1 ∧ t.reg8 .a = 0x22)) = true := by decide

theorem test_V63 :
    goes (base.srUpdate 0xFFFFFFFF 1) [0xED, 0xD9] (fun t => decide (t.sr = 0x01010101)) = true := by decide

theorem test_V67 :
    goes ((base.setPair .de 0xAAAA1111).setPair .hl 0xBBBB2222) [0xEB]
      (fun t => decide (t.pair .de = 0xAAAA2222 ∧ t.pair .hl = 0xBBBB1111)) = true := by decide

theorem test_V68 :
    goes (((base.srUpdate 0xFFFFFFFF 0x40).setPair .de 0xAAAA1111).setPair .hl 0xBBBB2222) [0xEB]
      (fun t => decide (t.pair .de = 0xBBBB2222 ∧ t.pair .hl = 0xAAAA1111)) = true := by decide

theorem test_V69 :
    goes (((base.setSp 0x7FFE).holding 0x7FFE [0x34, 0x12]).setPair .hl 0xABCD) [0xE3]
      (fun t => decide (t.pair .hl = 0x1234 ∧ bytesAt t 0x7FFE 2 = [0xCD, 0xAB] ∧ t.sp = 0x7FFE)) = true := by decide

theorem test_V72 :
    goes ((base.setPair .bc 0x11111).setPairAlt .bc 0x22222) [0xED, 0xCB, 0x30]
      (fun t => decide (t.pair .bc = 0x12222 ∧ t.pairAlt .bc = 0x21111)) = true := by decide

theorem test_V74 :
    goes (((base.setReg8 .a 0x5A).setPair .hl 0x6000).holding 0x6000 [0xA5]) [0xED, 0x37]
      (fun t => decide (t.reg8 .a = 0xA5 ∧ bytesAt t 0x6000 1 = [0x5A])) = true := by decide

theorem test_V75 :
    goes ((base.setPair .hl 0x1111AAAA).setIdx .ix 0x2222BBBB) [0xED, 0x33]
      (fun t => decide (t.pair .hl = 0x1111BBBB ∧ t.idx .ix = 0x2222AAAA)) = true := by decide

theorem test_V76 :
    goes (base.setPair .hl 0x12345678) [0xED, 0x3E] (fun t => decide (t.pair .hl = 0x56781234)) = true := by decide

theorem test_V78 :
    goes ((((base.setPair .hl 0x1000).setPair .de 0x2000).setPair .bc 1).holding 0x1000 [0x77]) [0xED, 0xA0]
      (fun t => decide (bytesAt t 0x2000 1 = [0x77] ∧ t.pair .hl = 0x1001 ∧ t.pair .de = 0x2001 ∧ t.pair .bc = 0)) = true := by decide

theorem test_V78_flags :
    fAfter ((((base.setPair .hl 0x1000).setPair .de 0x2000).setPair .bc 1).holding 0x1000 [0x77]) [0xED, 0xA0]
      = some (packFlags ⟨false, false, false, false, false, false⟩ (Config.drawFlags 0)) := rfl

theorem test_V79 :
    goes ((((base.setPair .hl 0x1000).setPair .de 0x2000).setPair .bc 3).holding 0x1000 [0x11]) [0xED, 0xB0]
      (fun t => decide (bytesAt t 0x2000 1 = [0x11] ∧ t.pair .bc = 2 ∧ t.pc = 0x100)) = true := by decide

theorem test_V79_flags :
    fAfter ((((base.setPair .hl 0x1000).setPair .de 0x2000).setPair .bc 3).holding 0x1000 [0x11]) [0xED, 0xB0]
      = some (packFlags ⟨false, false, false, true, false, false⟩ (Config.drawFlags 0)) := rfl

theorem test_V82 :
    goes (((base.setPair .hl 0x1FFFF).setPair .de 0x2000).setPair .bc 2) [0xED, 0xB0]
      (fun t => decide (t.pair .hl = 0x10000)) = true := by decide

theorem test_V83 :
    goes ((((base.srUpdate 0xFFFFFFFF 0x80).setPair .hl 0x1FFFF).setPair .de 0x2000).setPair .bc 2) [0xED, 0xB0]
      (fun t => decide (t.pair .hl = 0x20000)) = true := by decide

theorem test_V85 :
    goes ((((base.setReg8 .a 0x3B).setPair .hl 0x1000).setPair .bc 2).holding 0x1000 [0x3B]) [0xED, 0xA1]
      (fun t => decide (t.pair .hl = 0x1001 ∧ t.pair .bc = 1)) = true := by decide

theorem test_V85_flags :
    fAfter ((((base.setReg8 .a 0x3B).setPair .hl 0x1000).setPair .bc 2).holding 0x1000 [0x3B]) [0xED, 0xA1]
      = some (packFlags ⟨false, true, false, true, true, false⟩ (Config.drawFlags 0)) := rfl

theorem test_V89 :
    goes (((((base.srUpdate 0xFFFFFFFF 0x40).setPair .hl 0x1000).setPair .de 0x2000).setPair .bc 4).holding 0x1000 [0x78, 0x56, 0x34, 0x12]) [0xED, 0xE0]
      (fun t => decide (bytesAt t 0x2000 4 = [0x78, 0x56, 0x34, 0x12] ∧ t.pair .hl = 0x1004 ∧ t.pair .bc = 0)) = true := by decide

theorem test_V89_flags :
    fAfter (((((base.srUpdate 0xFFFFFFFF 0x40).setPair .hl 0x1000).setPair .de 0x2000).setPair .bc 4).holding 0x1000 [0x78, 0x56, 0x34, 0x12]) [0xED, 0xE0]
      = some (packFlags ⟨false, false, false, false, false, false⟩ (Config.drawFlags 0)) := rfl

theorem test_V93 :
    goes ((((base.setPair .hl 0x1002).setPair .de 0x2002).setPair .bc 2).holding 0x1002 [0xEF, 0xBE]) [0xED, 0xE8]
      (fun t => decide (bytesAt t 0x2002 2 = [0xEF, 0xBE] ∧ t.pair .hl = 0x1000 ∧ t.pair .de = 0x2000)) = true := by decide

theorem test_V101 : goes (base.setReg8 .a 0x7F) [0xC6, 0x01] (fun t => decide (t.reg8 .a = 0x80)) = true := by decide

theorem test_V101_flags :
    fAfter (base.setReg8 .a 0x7F) [0xC6, 0x01]
      = some (packFlags ⟨true, false, true, true, false, false⟩ (Config.drawFlags 0)) := rfl

theorem test_V102 : goes (base.setReg8 .a 0x3A) [0xC6, 0xC6] (fun t => decide (t.reg8 .a = 0)) = true := by decide

theorem test_V102_flags :
    fAfter (base.setReg8 .a 0x3A) [0xC6, 0xC6]
      = some (packFlags ⟨false, true, true, false, false, true⟩ (Config.drawFlags 0)) := rfl

theorem test_V105 :
    goes ((base.setReg8 .a 0xFF).setF 1) [0xCE, 0x00] (fun t => decide (t.reg8 .a = 0)) = true := by decide

theorem test_V105_flags :
    fAfter ((base.setReg8 .a 0xFF).setF 1) [0xCE, 0x00]
      = some (packFlags ⟨false, true, true, false, false, true⟩ (Config.drawFlags 0)) := rfl

theorem test_V108 : goes (base.setReg8 .a 0x80) [0xD6, 0x01] (fun t => decide (t.reg8 .a = 0x7F)) = true := by decide

theorem test_V108_flags :
    fAfter (base.setReg8 .a 0x80) [0xD6, 0x01]
      = some (packFlags ⟨false, false, true, true, true, false⟩ (Config.drawFlags 0)) := rfl

theorem test_V110 : goes (base.setReg8 .a 0x7F) [0xD6, 0xFF] (fun t => decide (t.reg8 .a = 0x80)) = true := by decide

theorem test_V110_flags :
    fAfter (base.setReg8 .a 0x7F) [0xD6, 0xFF]
      = some (packFlags ⟨true, false, false, true, true, true⟩ (Config.drawFlags 0)) := rfl

theorem test_V112 :
    goes ((base.setReg8 .a 0x80).setF 1) [0xDE, 0x00] (fun t => decide (t.reg8 .a = 0x7F)) = true := by decide

theorem test_V112_flags :
    fAfter ((base.setReg8 .a 0x80).setF 1) [0xDE, 0x00]
      = some (packFlags ⟨false, false, true, true, true, false⟩ (Config.drawFlags 0)) := rfl

theorem test_V113 : goes (base.setReg8 .a 0xC3) [0xE6, 0x7B] (fun t => decide (t.reg8 .a = 0x43)) = true := by decide

theorem test_V113_flags :
    fAfter (base.setReg8 .a 0xC3) [0xE6, 0x7B]
      = some (packFlags ⟨false, false, true, false, false, false⟩ (Config.drawFlags 0)) := rfl

theorem test_V116 : goes (base.setReg8 .a 0xFF) [0xEE, 0x0F] (fun t => decide (t.reg8 .a = 0xF0)) = true := by decide

theorem test_V116_flags :
    fAfter (base.setReg8 .a 0xFF) [0xEE, 0x0F]
      = some (packFlags ⟨true, false, false, true, false, false⟩ (Config.drawFlags 0)) := rfl

theorem test_V117 : goes (base.setReg8 .a 0x12) [0xF6, 0x48] (fun t => decide (t.reg8 .a = 0x5A)) = true := by decide

theorem test_V117_flags :
    fAfter (base.setReg8 .a 0x12) [0xF6, 0x48]
      = some (packFlags ⟨false, false, false, true, false, false⟩ (Config.drawFlags 0)) := rfl

theorem test_V120 : goes (base.setReg8 .a 0x10) [0xFE, 0x20] (fun t => decide (t.reg8 .a = 0x10)) = true := by decide

theorem test_V120_flags :
    fAfter (base.setReg8 .a 0x10) [0xFE, 0x20]
      = some (packFlags ⟨true, false, false, false, true, true⟩ (Config.drawFlags 0)) := rfl

theorem test_V121 : goes ((base.setReg8 .d 0xFF).setF 1) [0x14] (fun t => decide (t.reg8 .d = 0)) = true := by decide

theorem test_V121_flags :
    fAfter ((base.setReg8 .d 0xFF).setF 1) [0x14]
      = some (packFlags ⟨false, true, true, false, false, true⟩ (Config.drawFlags 0)) := rfl

theorem test_V125 : goes (base.setReg8 .b 0x80) [0x05] (fun t => decide (t.reg8 .b = 0x7F)) = true := by decide

theorem test_V125_flags :
    fAfter (base.setReg8 .b 0x80) [0x05]
      = some (packFlags ⟨false, false, true, true, true, false⟩ (Config.drawFlags 0)) := rfl

theorem test_V127 :
    goes ((base.setPair .hl 0x7000).holding 0x7000 [0x10]) [0x35]
      (fun t => decide (bytesAt t 0x7000 1 = [0x0F])) = true := by decide

theorem test_V127_flags :
    fAfter ((base.setPair .hl 0x7000).holding 0x7000 [0x10]) [0x35]
      = some (packFlags ⟨false, false, true, false, true, false⟩ (Config.drawFlags 0)) := rfl

theorem test_V128 :
    goes ((base.setIdx .ix 0x1234).setReg8 .a 1) [0xDD, 0x84] (fun t => decide (t.reg8 .a = 0x13)) = true := by decide

theorem test_V128_flags :
    fAfter ((base.setIdx .ix 0x1234).setReg8 .a 1) [0xDD, 0x84]
      = some (packFlags ⟨false, false, false, false, false, false⟩ (Config.drawFlags 0)) := rfl

theorem test_V129 :
    goes ((base.setReg8 .a 0xF0).setReg8 .b 0x0F) [0xED, 0x04] (fun t => decide (t.reg8 .a = 0xF0)) = true := by decide

theorem test_V129_flags :
    fAfter ((base.setReg8 .a 0xF0).setReg8 .b 0x0F) [0xED, 0x04]
      = some (packFlags ⟨false, true, true, true, false, false⟩ (Config.drawFlags 0)) := rfl

theorem test_V140 : goes (base.setReg8 .a 0x3C) [0x27] (fun t => decide (t.reg8 .a = 0x42)) = true := by decide

theorem test_V142 : goes (base.setReg8 .a 0x80) [0xED, 0x44] (fun t => decide (t.reg8 .a = 0x80)) = true := by decide

theorem test_V142_flags :
    fAfter (base.setReg8 .a 0x80) [0xED, 0x44]
      = some (packFlags ⟨true, false, false, true, true, true⟩ (Config.drawFlags 0)) := rfl

theorem test_V144 :
    goes (base.setPair .hl 0x12340F0F) [0xDD, 0x2F] (fun t => decide (t.pair .hl = 0x1234F0F0)) = true := by decide

theorem test_V144_flags :
    fAfter (base.setPair .hl 0x12340F0F) [0xDD, 0x2F]
      = some (packFlags ⟨false, false, true, false, true, false⟩ (Config.drawFlags 0)) := rfl

theorem test_V145 :
    goes (base.setPair .hl 0x55550001) [0xED, 0x54] (fun t => decide (t.pair .hl = 0x5555FFFF)) = true := by decide

/-- V145, and R432 where bits 3:0 are 0 and bits 11:4 are not: H = 0. -/
theorem test_V145_flags :
    fAfter (base.setPair .hl 0x55550001) [0xED, 0x54] = some (packFlags ⟨true, false, true, false, true, true⟩ (Config.drawFlags 0)) ∧
      fAfter (base.setPair .hl 0x10) [0xED, 0x54] = some (packFlags ⟨true, false, false, false, true, true⟩ (Config.drawFlags 0)) :=
  ⟨rfl, rfl⟩

theorem test_V147 :
    goes ((base.setReg8 .a 0x85).setPair .hl 0x11112222) [0xED, 0x65]
      (fun t => decide (t.pair .hl = 0x1111FF85)) = true := by decide

theorem test_V150 :
    goes (base.setPair .hl 0x8000) [0xED, 0x75] (fun t => decide (t.pair .hl = 0xFFFF8000)) = true := by decide

theorem test_V153 :
    goes (((base.srUpdate 0xFFFFFFFF 0x20).setIef2 true).ioWrite 0x17 0x0F) [0xDD, 0xF3, 0x01]
      (fun t => decide (t.io.ier = 0x0E ∧ t.ief1 = false ∧ t.ief2 = false)) = true := by decide

theorem test_V154 :
    goes base [0xDD, 0xFB, 0x03]
      (fun t => decide (t.io.ier = 3 ∧ t.ief1 = true ∧ t.ief2 = true ∧ t.eiShadow = true)) = true := by decide

theorem test_V155 : goes base [0xDD, 0xFB, 0x0E] (fun t => decide (t.io.ier = 0x0F ∧ t.ief1 = false)) = true := by decide

theorem test_V158 : goes base [0xED, 0x4E] (fun t => decide (t.sr = 0x18)) = true := by decide

theorem test_V161 :
    goes ((base.srUpdate 0xFFFFFFFF 0x60).setReg8 .a 0xFF) [0xDD, 0xC8]
      (fun t => decide (t.sr = 0x07070760)) = true := by decide

theorem test_V163 :
    goes ((base.srUpdate 0xFFFFFFFF 0x40).setPair .hl 0xFFFFFFFF) [0xED, 0xC0]
      (fun t => decide (t.pair .hl = 0x40)) = true := by decide

theorem test_V164 :
    goes ((base.srUpdate 0xFFFFFFFF 0x20).setPair .hl 0x301) [0xED, 0xC8]
      (fun t => decide (t.sr = 0x03030321)) = true := by decide

theorem test_V165 :
    goes (base.srUpdate 0xFFFFFFFF 0x03020100) [0xDD, 0xD0] (fun t => decide (t.reg8 .a = 2)) = true := by decide

theorem test_V168 : goes base [0xFD, 0xF7] (fun t => decide (t.sr = 0x80 ∧ t.pc = 0x102)) = true := by decide

theorem test_V169 : goes (base.srUpdate 0xFFFFFFFF 0x80) [0xDD, 0xF7] (fun t => decide (t.sr = 0xC0)) = true := by decide

theorem test_V171_flags :
    fAfter (base.srUpdate 0xFFFFFFFF 0x01000101) [0xED, 0xCF]
      = some (packFlags ⟨false, true, false, true, false, true⟩ (Config.drawFlags 0)) := rfl

theorem test_V172_flags :
    fAfter (base.srUpdate 0xFFFFFFFF 0xC0) [0xDD, 0xCF]
      = some (packFlags ⟨true, true, false, false, false, false⟩ (Config.drawFlags 0)) := rfl

theorem test_V173 : goes base [0xED, 0x76] (fun t => decide (t.halted = true)) = true := by decide

theorem test_V174 : goes (base.ioWrite 0x16 0x80) [0xED, 0x76] (fun t => decide (t.standby = true)) = true := by decide

theorem test_V175 :
    goes (((base.setSp 0x8000).setPair .bc 0xAABB1234).setDdir (some ⟨some true, .zero⟩)) [0xC5]
      (fun t => decide (t.sp = 0x7FFC ∧ bytesAt t 0x7FFC 4 = [0x34, 0x12, 0xBB, 0xAA] ∧ t.ddir = none)) = true := by decide

theorem test_V178 :
    goes (((base.setIdx .ix 0x100000).holding 0xF0000 [0x99]).setDdir (some ⟨none, .iw⟩)) [0xDD, 0x5E, 0x00, 0x00, 0xFF]
      (fun t => decide (t.reg8 .e = 0x99)) = true := by decide

theorem test_V179 :
    goes base [0xDD, 0xC3] (fun t => decide (t.ddir = some ⟨none, .ib⟩ ∧ t.pc = 0x102)) = true := by decide

theorem test_V190 :
    goes ((base.setPair .hl 0x1234F000).setPair .de 0x1000) [0x19]
      (fun t => decide (t.pair .hl = 0x12340000)) = true := by decide

theorem test_V190_flags :
    fAfter ((base.setPair .hl 0x1234F000).setPair .de 0x1000) [0x19]
      = some (packFlags ⟨false, false, false, false, false, true⟩ (Config.drawFlags 0)) := rfl

theorem test_V194 :
    goes (((base.srUpdate 0xFFFFFFFF 0x80).setPair .hl 0xFFFF).setPair .bc 1) [0x09]
      (fun t => decide (t.pair .hl = 0x10000)) = true := by decide

theorem test_V194_flags :
    fAfter (((base.srUpdate 0xFFFFFFFF 0x80).setPair .hl 0xFFFF).setPair .bc 1) [0x09]
      = some (packFlags ⟨false, false, true, false, false, false⟩ (Config.drawFlags 0)) := rfl

theorem test_V195 :
    goes ((((base.srUpdate 0xFFFFFFFF 0x80).setPair .hl 0x9999).setPair .de 0x1111).setF 1) [0xED, 0x52]
      (fun t => decide (t.pair .hl = 0x8887)) = true := by decide

theorem test_V195_flags :
    fAfter ((((base.srUpdate 0xFFFFFFFF 0x80).setPair .hl 0x9999).setPair .de 0x1111).setF 1) [0xED, 0x52]
      = some (packFlags ⟨true, false, false, false, true, false⟩ (Config.drawFlags 0)) := rfl

theorem test_V200 : goes (base.setPair .hl 0x10000) [0x2B] (fun t => decide (t.pair .hl = 0x1FFFF)) = true := by decide

theorem test_V204 : goes (base.setSp 4) [0xED, 0x92, 0x08, 0x00] (fun t => decide (t.sp = 0xFFFC)) = true := by decide

theorem test_V204_flags :
    fAfter (base.setSp 4) [0xED, 0x92, 0x08, 0x00]
      = some (packFlags ⟨false, false, true, false, true, true⟩ (Config.drawFlags 0)) := rfl

theorem test_V205 :
    goes ((base.setPair .hl 0x7FFF).setPair .bc 1) [0xED, 0x84]
      (fun t => decide (t.pair .hl = 0x8000)) = true := by decide

theorem test_V205_flags :
    fAfter ((base.setPair .hl 0x7FFF).setPair .bc 1) [0xED, 0x84]
      = some (packFlags ⟨true, false, true, true, false, false⟩ (Config.drawFlags 0)) := rfl

theorem test_V209 :
    goes ((base.setPair .hl 0x7FFF).setF 1) [0xED, 0x8E, 0xFF, 0x7F]
      (fun t => decide (t.pair .hl = 0xFFFF)) = true := by decide

theorem test_V209_flags :
    fAfter ((base.setPair .hl 0x7FFF).setF 1) [0xED, 0x8E, 0xFF, 0x7F]
      = some (packFlags ⟨true, false, true, true, false, false⟩ (Config.drawFlags 0)) := rfl

theorem test_V211 :
    goes (base.setPair .hl 0x8000) [0xED, 0x96, 0x01, 0x00] (fun t => decide (t.pair .hl = 0x7FFF)) = true := by decide

theorem test_V211_flags :
    fAfter (base.setPair .hl 0x8000) [0xED, 0x96, 0x01, 0x00]
      = some (packFlags ⟨false, false, true, true, true, false⟩ (Config.drawFlags 0)) := rfl

theorem test_V212 :
    goes (base.setPair .hl 0xF0F0) [0xED, 0xA6, 0xF0, 0x0F] (fun t => decide (t.pair .hl = 0xF0)) = true := by decide

theorem test_V212_flags :
    fAfter (base.setPair .hl 0xF0F0) [0xED, 0xA6, 0xF0, 0x0F]
      = some (packFlags ⟨false, false, true, true, false, false⟩ (Config.drawFlags 0)) := rfl

theorem test_V214 :
    goes (base.setPair .hl 0xABCD1234) [0xED, 0xAF] (fun t => decide (t.pair .hl = 0xABCD0000)) = true := by decide

theorem test_V214_flags :
    fAfter (base.setPair .hl 0xABCD1234) [0xED, 0xAF]
      = some (packFlags ⟨false, true, false, true, false, false⟩ (Config.drawFlags 0)) := rfl

theorem test_V216 :
    goes (base.setPair .hl 0x1234) [0xED, 0xBE, 0x34, 0x12] (fun t => decide (t.pair .hl = 0x1234)) = true := by decide

theorem test_V216_flags :
    fAfter (base.setPair .hl 0x1234) [0xED, 0xBE, 0x34, 0x12]
      = some (packFlags ⟨false, true, false, false, true, false⟩ (Config.drawFlags 0)) := rfl

theorem test_V218 :
    goes (base.setPair .de 0xFFFF) [0xED, 0x5C] (fun t => decide (t.pair .de = 0xFE01)) = true := by decide

theorem test_V219 :
    goes ((base.setPair .hl 0xFFFE).setPair .bc 3) [0xED, 0xCB, 0x90]
      (fun t => decide (t.pair .hl = 0xFFFFFFFA)) = true := by decide

theorem test_V219_flags :
    fAfter ((base.setPair .hl 0xFFFE).setPair .bc 3) [0xED, 0xCB, 0x90]
      = some (packFlags ⟨true, false, false, false, false, false⟩ (Config.drawFlags 0)) := rfl

theorem test_V220 :
    goes (base.setPair .hl 0x8000) [0xED, 0xCB, 0x93] (fun t => decide (t.pair .hl = 0x40000000)) = true := by decide

theorem test_V220_flags :
    fAfter (base.setPair .hl 0x8000) [0xED, 0xCB, 0x93]
      = some (packFlags ⟨false, false, false, false, false, true⟩ (Config.drawFlags 0)) := rfl

theorem test_V223 :
    goes (base.setPair .hl 0xFFFF) [0xED, 0xCB, 0x9B] (fun t => decide (t.pair .hl = 0xFFFE0001)) = true := by decide

theorem test_V223_flags :
    fAfter (base.setPair .hl 0xFFFF) [0xED, 0xCB, 0x9B]
      = some (packFlags ⟨true, false, false, false, false, true⟩ (Config.drawFlags 0)) := rfl

theorem test_V225 :
    goes (base.setPair .hl 0x64) [0xED, 0xCB, 0xBF, 0x07, 0x00]
      (fun t => decide (t.pair .hl = 0x2000E)) = true := by decide

theorem test_V225_flags :
    fAfter (base.setPair .hl 0x64) [0xED, 0xCB, 0xBF, 0x07, 0x00]
      = some (packFlags ⟨false, false, false, false, false, false⟩ (Config.drawFlags 0)) := rfl

theorem test_V229 :
    goes (base.setPair .hl 0x10000) [0xED, 0xCB, 0xBF, 0x01, 0x00] (fun t => decide (t.pc = 0x105)) = true := by decide

theorem test_V231 :
    goes ((base.setPair .hl 0xFFFEFFFF).setPair .de 0xFFFF) [0xED, 0xCB, 0xB9]
      (fun t => decide (t.pair .hl = 0xFFFEFFFF)) = true := by decide

theorem test_V231_flags :
    fAfter ((base.setPair .hl 0xFFFEFFFF).setPair .de 0xFFFF) [0xED, 0xCB, 0xB9]
      = some (packFlags ⟨false, false, false, false, false, false⟩ (Config.drawFlags 0)) := rfl

theorem test_V240 : goes (base.setReg8 .b 0x88) [0xCB, 0x00] (fun t => decide (t.reg8 .b = 0x11)) = true := by decide

theorem test_V240_flags :
    fAfter (base.setReg8 .b 0x88) [0xCB, 0x00]
      = some (packFlags ⟨false, false, false, true, false, true⟩ (Config.drawFlags 0)) := rfl

theorem test_V242 : goes (base.setReg8 .d 0x8F) [0xCB, 0x12] (fun t => decide (t.reg8 .d = 0x1E)) = true := by decide

theorem test_V242_flags :
    fAfter (base.setReg8 .d 0x8F) [0xCB, 0x12]
      = some (packFlags ⟨false, false, false, true, false, true⟩ (Config.drawFlags 0)) := rfl

theorem test_V246 : goes (base.setReg8 .a 0x81) [0xCB, 0x2F] (fun t => decide (t.reg8 .a = 0xC0)) = true := by decide

theorem test_V246_flags :
    fAfter (base.setReg8 .a 0x81) [0xCB, 0x2F]
      = some (packFlags ⟨true, false, false, true, false, true⟩ (Config.drawFlags 0)) := rfl

theorem test_V248 :
    goes (base.setPair .bc 0xFFFF8001) [0xED, 0xCB, 0x00] (fun t => decide (t.pair .bc = 0xFFFF0003)) = true := by decide

theorem test_V248_flags :
    fAfter (base.setPair .bc 0xFFFF8001) [0xED, 0xCB, 0x00]
      = some (packFlags ⟨false, false, false, true, false, true⟩ (Config.drawFlags 0)) := rfl

theorem test_V253 :
    goes (base.setIdx .ix 0xC000) [0xED, 0xCB, 0x24] (fun t => decide (t.idx .ix = 0x8000)) = true := by decide

theorem test_V253_flags :
    fAfter (base.setIdx .ix 0xC000) [0xED, 0xCB, 0x24]
      = some (packFlags ⟨true, false, false, false, false, true⟩ (Config.drawFlags 0)) := rfl

theorem test_V257 :
    goes ((base.setIdx .ix 0x1000).holding 0x1004 [0x01, 0x80]) [0xDD, 0xCB, 0x04, 0x3A]
      (fun t => decide (bytesAt t 0x1004 2 = [0x00, 0x40])) = true := by decide

theorem test_V257_flags :
    fAfter ((base.setIdx .ix 0x1000).holding 0x1004 [0x01, 0x80]) [0xDD, 0xCB, 0x04, 0x3A]
      = some (packFlags ⟨false, false, false, false, false, true⟩ (Config.drawFlags 0)) := rfl

theorem test_V271_flags :
    fAfter (base.setReg8 .b 4) [0xCB, 0x58]
      = some (packFlags ⟨drawn 7, true, true, drawn 2, false, false⟩ (Config.drawFlags 0)) := rfl

theorem test_V272 :
    goes (base.setPair .hl 0x5000) [0xCB, 0xFE] (fun t => decide (bytesAt t 0x5000 1 = [0x80])) = true := by decide

theorem test_V275 :
    goes ((base.setIdx .ix 0x3000).holding 0x2FFF [0xFF]) [0xDD, 0xCB, 0xFF, 0xBE]
      (fun t => decide (bytesAt t 0x2FFF 1 = [0x7F])) = true := by decide

theorem test_V291 :
    goes ((base.srUpdate 0xFFFFFFFF 0x80).setDdir (some ⟨none, .iw⟩)) [0xC3, 0x56, 0x34, 0x12, 0x00]
      (fun t => decide (t.pc = 0x123456)) = true := by decide

theorem test_V292 :
    goes (base.setDdir (some ⟨none, .ib⟩)) [0xC3, 0x56, 0x34, 0x12] (fun t => decide (t.pc = 0x3456)) = true := by decide

theorem test_V295 : goes (base.setPair .hl 0x54000) [0xE9] (fun t => decide (t.pc = 0x4000)) = true := by decide

theorem test_V298 : goes base [0x18, 0xFE] (fun t => decide (t.pc = 0x100)) = true := by decide

theorem test_V303 : goes base [0x10, 0x10] (fun t => decide (t.reg8 .b = 0xFF ∧ t.pc = 0x112)) = true := by decide

theorem test_V305 : goes base [0xDD, 0x18, 0xFC, 0xFF] (fun t => decide (t.pc = 0x100)) = true := by decide

theorem test_V310 :
    goes ((base.srUpdate 0xFFFFFFFF 0x80).setSp 0x8000) [0xCD, 0x34, 0x12]
      (fun t => decide (t.sp = 0x7FFC ∧ bytesAt t 0x7FFC 4 = [0x03, 0x01, 0x00, 0x00] ∧ t.pc = 0x1234)) = true := by decide

theorem test_V312 :
    goes (((base.srUpdate 0xFFFFFFFF 0x40).setSp 0x7FFE).holding 0x7FFE [0x03, 0x02]) [0xC9]
      (fun t => decide (t.pc = 0x203 ∧ t.sp = 0x8000)) = true := by decide

theorem test_V315 :
    goes ((base.srUpdate 0xFFFFFFFF 0x80).setSp 0x8000) [0xFF]
      (fun t => decide (t.sp = 0x7FFC ∧ bytesAt t 0x7FFC 4 = [0x01, 0x01, 0x00, 0x00] ∧ t.pc = 0x38)) = true := by decide

theorem test_V317 :
    goes (base.setSp 0x9000) [0xED, 0xCD, 0xFD]
      (fun t => decide (t.pc = 0x100 ∧ bytesAt t 0x8FFE 2 = [0x03, 0x01])) = true := by decide

theorem test_V319 :
    goes (base.setSp 0x9000) [0xDD, 0xEC, 0x00, 0x01] (fun t => decide (t.pc = 0x104 ∧ t.sp = 0x9000)) = true := by decide

theorem test_V320 :
    goes ((base.srUpdate 0xFFFFFFFF 0x80).setSp 0x9000) [0xFD, 0xCD, 0x00, 0x01, 0x00]
      (fun t => decide (t.pc = 0x205 ∧ bytesAt t 0x8FFC 4 = [0x05, 0x01, 0x00, 0x00])) = true := by decide

theorem test_V321 :
    goes (((base.setIef2 true).setSp 0x7FFE).holding 0x7FFE [0x00, 0x30]) [0xED, 0x45]
      (fun t => decide (t.pc = 0x3000 ∧ t.ief1 = true)) = true := by decide

theorem test_V322 :
    goes (((base.setIef2 true).setSp 0x7FFE).holding 0x7FFE [0x00, 0x30]) [0xED, 0x4D]
      (fun t => decide (t.pc = 0x3000 ∧ t.ief1 = false)) = true := by decide

theorem test_V340 :
    goes ((base.setReg8 .a 0x12).answered [0x5A]) [0xDB, 0x34]
      (fun t => decide (t.reg8 .a = 0x5A ∧ t.busLog = [.portRead false 0x1234 0x5A])) = true := by decide

theorem test_V342 :
    goes ((base.setPair .bc 0xABCDEF).answered [0]) [0xED, 0x50]
      (fun t => decide (t.reg8 .d = 0 ∧ t.busLog = [.portRead false 0xABCDEF 0])) = true := by decide

theorem test_V342_flags :
    fAfter ((base.setPair .bc 0xABCDEF).answered [0]) [0xED, 0x50]
      = some (packFlags ⟨false, true, false, true, false, false⟩ (Config.drawFlags 0)) := rfl

theorem test_V345 :
    goes ((base.setReg8 .a 0x77).setDdir (some ⟨none, .ib⟩)) [0xED, 0xD3, 0x56, 0x34, 0x12]
      (fun t => decide (t.busLog = [.portWrite false 0x123456 0x77])) = true := by decide

theorem test_V346 :
    goes (base.setPair .bc 0x300) [0xED, 0x71, 0xA5]
      (fun t => decide (t.busLog = [.portWrite false 0x300 0xA5])) = true := by decide

theorem test_V347 :
    goes ((base.setPair .bc 0x300).answered [0xABCD]) [0xDD, 0x78]
      (fun t => decide (t.pair .hl = 0xABCD)) = true := by decide

theorem test_V347_flags :
    fAfter ((base.setPair .bc 0x300).answered [0xABCD]) [0xDD, 0x78]
      = some (packFlags ⟨true, false, false, true, false, false⟩ (Config.drawFlags 0)) := rfl

theorem test_V350 :
    goes (base.setPair .bc 0x300) [0xFD, 0x79, 0x34, 0x12]
      (fun t => decide (t.busLog = [.portWrite true 0x300 0x1234])) = true := by decide

theorem test_V352 :
    goes (base.setPair .hl 0x55AA) [0xFD, 0xD3, 0x00, 0x04]
      (fun t => decide (t.busLog = [.portWrite true 0x400 0x55AA])) = true := by decide

theorem test_V353 :
    goes ((((base.setPair .de 0x300).setPair .hl 0x4000).setPair .bc 2).answered [0xABCD]) [0xED, 0xE2]
      (fun t => decide (bytesAt t 0x4000 2 = [0xCD, 0xAB] ∧ t.pair .hl = 0x4002 ∧ t.pair .bc = 1)) = true := by decide

theorem test_V353_flags :
    fAfter ((((base.setPair .de 0x300).setPair .hl 0x4000).setPair .bc 2).answered [0xABCD]) [0xED, 0xE2]
      = some (packFlags ⟨drawn 7, false, drawn 4, drawn 2, true, drawn 0⟩ (Config.drawFlags 0)) := rfl

theorem test_V354 :
    goes ((((base.setPair .de 0x300).setPair .hl 0x4000).setPair .bc 1).holding 0x4000 [0xCD, 0xAB]) [0xED, 0xE3]
      (fun t => decide (t.busLog = [.portWrite true 0x300 0xABCD] ∧ t.pair .hl = 0x4002)) = true := by decide

theorem test_V354_flags :
    fAfter ((((base.setPair .de 0x300).setPair .hl 0x4000).setPair .bc 1).holding 0x4000 [0xCD, 0xAB]) [0xED, 0xE3]
      = some (packFlags ⟨drawn 7, true, drawn 4, drawn 2, true, drawn 0⟩ (Config.drawFlags 0)) := rfl

theorem test_V355 : goes base [0xED, 0x38, 0x17] (fun t => decide (t.reg8 .a = 1)) = true := by decide

theorem test_V355_flags :
    fAfter base [0xED, 0x38, 0x17]
      = some (packFlags ⟨false, false, false, false, false, false⟩ (Config.drawFlags 0)) := rfl

theorem test_V356 :
    goes (base.setReg8 .a 0xC0) [0xED, 0x39, 0x16] (fun t => decide (t.stby = true ∧ t.brxt = true)) = true := by decide

theorem test_V358 :
    goes (base.setReg8 .a 0xFF) [0xED, 0x39, 0x18] (fun t => decide (t.io.avbr = 0xFE)) = true := by decide

theorem test_V360_flags :
    fAfter (base.setReg8 .c 0x17) [0xED, 0x74, 0x02]
      = some (packFlags ⟨false, true, true, true, false, false⟩ (Config.drawFlags 0)) := rfl

theorem test_V361 :
    goes (((base.setPair .hl 0x5000).setPair .bc 0x0404).holding 0x5000 [0x00, 0x10, 0x20, 0x30]) [0xED, 0x93]
      (fun t => decide (t.pair .hl = 0x5001 ∧ t.pair .bc = 0x0305 ∧ t.pc = 0x100)) = true := by decide

theorem test_V362 :
    goes (((base.setPair .hl 0x6000).setPair .bc 0x0108).holding 0x6000 [0xA0]) [0xED, 0x83]
      (fun t => decide (t.io.lmwr = 0xA0 ∧ t.pair .hl = 0x6001 ∧ t.pair .bc = 0x0009)) = true := by decide

theorem test_V362_flags :
    fAfter (((base.setPair .hl 0x6000).setPair .bc 0x0108).holding 0x6000 [0xA0]) [0xED, 0x83]
      = some (packFlags ⟨drawn 7, true, drawn 4, drawn 2, true, drawn 0⟩ (Config.drawFlags 0)) := rfl


/-! ## Events and the platform (V380 to V404) -/

/-- A boundary at which the environment presents something. -/
def under (s : State) (e : Inputs) : State := { s with inputs := [e] }

/-- An environment with one input asserted. -/
def line (n : Nat) : Inputs :=
  { Inputs.quiet with int0 := decide (n = 0), int1 := decide (n = 1), int2 := decide (n = 2), int3 := decide (n = 3) }

/-- An edge of /NMI. -/
def edge : Inputs := { Inputs.quiet with nmi := true }

/-- RESET. -/
def resets : Inputs := { Inputs.quiet with reset := true }

theorem test_V380 : goes (under ((base.setSp 0x8000).srBits 0x20 true) edge) []
    (fun t => decide (t.ief2 = true ∧ t.ief1 = false ∧ t.sp = 0x7FFE ∧ t.pc = 0x66)) = true := by decide

theorem test_V381 : goes (under (((base.srBits 0x80 true).setSp 0x8000).setPc 0x00123456) edge) []
    (fun t => decide (t.sp = 0x7FFC ∧ bytesAt t 0x7FFC 4 = [0x56, 0x34, 0x12, 0x00] ∧ t.pc = 0x66)) = true := by decide

theorem test_V382 : goes (under ((base.setSp 0x8000).srUpdate 0xFF 0x28) (line 0)) []
    (fun t => decide (t.ief1 = false ∧ bytesAt t 0x7FFE 2 = [0x00, 0x01] ∧ t.pc = 0x38)) = true := by decide

theorem test_V383 : goes (under ((base.setSp 0x8000).srUpdate 0xFF 0x08) (line 0)) [0x00]
    (fun t => decide (t.sp = 0x8000 ∧ t.pc = 0x101)) = true := by decide

theorem test_V385 : goes (under ((((base.setSp 0x8000).srUpdate 0xFF 0x30).setIreg 0x8000).writeWord 0x8010 0xA000)
    { line 0 with ackVector := 0x10 }) [] (fun t => decide (t.pc = 0xA000 ∧ t.sp = 0x7FFE)) = true := by decide

theorem test_V386 : goes (under ((((base.srUpdate 0xFF 0xB8).setSp 0x8000).setIreg 0x120000).writeLong 0x123400 0x18000)
    { line 0 with ackVector := 0x3400 }) [] (fun t => decide (t.pc = 0x18000 ∧ t.sp = 0x7FFC)) = true := by decide

theorem test_V388 : goes (under (((((base.setSp 0x8000).srBits 0x20 true).ioWrite 0x18 0x42).ioWrite 0x17 4).writeWord
    0x4204 0x9000) (line 2)) [] (fun t => decide (t.pc = 0x9000)) = true := by decide

theorem test_V389 : goes (under ((((((base.srUpdate 0xFF 0xA0).setSp 0x8000).setIreg 0x10000).ioWrite 0x18 0xFE).ioWrite
    0x17 8).writeLong 0x1FE08 0x20000) (line 3)) [] (fun t => decide (t.pc = 0x20000)) = true := by decide

theorem test_V391 : goes (under (((base.setSp 0x8000).srUpdate 0xFF 0x28).setEiShadow true) (line 0)) [0x00]
    (fun t => decide (t.pc = 0x101 ∧ t.eiShadow = false)) = true := by decide

theorem test_V392 : goes (under (((base.setSp 0x8000).srUpdate 0xFF 0x28).setDdir (some ⟨none, .ib⟩)) (line 0)) [0x00]
    (fun t => decide (t.pc = 0x101)) = true := by decide

theorem test_V393 : goes (under (base.setHalted true) (line 0)) []
    (fun t => decide (t.halted = true ∧ t.pc = 0x100)) = true := by decide

theorem test_V394 : goes (under ((base.setHalted true).setSp 0x8000) edge) []
    (fun t => decide (t.halted = false ∧ t.pc = 0x66 ∧ bytesAt t 0x7FFE 2 = [0x00, 0x01])) = true := by decide

/-- V395 with `TRAP_ENTRY` = real: R722's sequence. -/
theorem test_V395 : goes (base.setSp 0x8000) [0xED, 0xFE]
    (fun t => decide (t.pc = 0 ∧ bytesAt t 0x7FFE 2 = [0x00, 0x01])) = true := by decide

theorem test_V401 : goes (under (base.srUpdate 0xFFFFFFFF 0x070707FB) resets) []
    (fun t => decide (t.sr = 0 ∧ t.pc = 0 ∧ t.io.ier = 1 ∧ t.io.msmer = 0xC0)) = true := by decide

/-- The state of V403 and V404. -/
def selecting : State := (((base.ioWrite 0x01 0xFF).ioWrite 0x00 0xF0).ioWrite 0x10 0x81).ioWrite 0x08 0xA0

theorem test_V403 : (selecting.selects 0xFFF).lmcs = true ∧ (selecting.selects 0x1000).lmcs = false := by decide

theorem test_V404 : selecting.waits 0 = [⟨5, 0, 0⟩] := by decide

/-- A state with a fetch window of four bytes. -/
def windowed : State := { base with params := { base.params with fetchWindow := 4 } }

/-- R120: a byte written in the window counts, though the value is the one it held. -/
theorem test_R120_written : goes (windowed.setPair .hl 0x103) [0x36, 0x00] (fun t => decide (t.stale = [0x103])) = true := by
  decide

/-- R120, log 18: ED FEh traps although the byte after it is stale. -/
theorem test_R120_unassigned : goes { base.setSp 0x8000 with stale := [0x102] } [0xED, 0xFE]
    (fun t => decide (t.pc = 0)) = true := by decide

/-- R16: the high byte of a push goes first; the log has the newest access at its head. -/
theorem test_R16_order : goes
    { (base.setSp 0x8000).setPair .bc 0x1234 with params := { base.params with memMap := [⟨0x7FFE, 0x7FFF, .device⟩] } } [0xC5]
    (fun t => decide (t.busLog = [.deviceWrite 0x7FFE 0x34, .deviceWrite 0x7FFF 0x12])) = true := by decide

/-! ## Witnesses: states and operands that meet the hypotheses of the statements -/

theorem witness_StepKeepsInvariant : Invariant State.reset ∧ ∃ t, step State.reset = .next t :=
  ⟨by unfold Invariant; decide, _, rfl⟩

theorem witness_DecodeUndoesEncode :
    (Instr.ldRIdxD .e .ix (.d16 0x1234)).wf = true ∧ (Instr.ldRIdxD .e .ix (.d16 0x1234)).fits .ib = true := by decide

theorem witness_EncodeUndoesDecode :
    decode .ib [0xDD, 0x5E, 0x34, 0x12, 0x00] = .ok (.ldRIdxD .e .ix (.d16 0x1234), [0x00]) := rfl

theorem witness_StepRunsDecoded : State.reset.runsInstr .nop [0, 0, 0, 0, 0, 0] :=
  ⟨⟨⟨rfl, rfl⟩, rfl, rfl⟩, rfl, rfl⟩

theorem witness_ResetEntersNativeMode : (under base resets).now.reset = true := rfl

theorem witness_ExtendedModeStays : (base.srBits 0x80 true).now.reset = false ∧ (base.srBits 0x80 true).xm = true ∧
    ∃ t, step (base.srBits 0x80 true) = .next t := ⟨rfl, rfl, _, rfl⟩

theorem witness_OtherBanksStay : (∃ t, exec (.incR .b) base = .next t) ∧ base.inBank (.gp 1 false .bc) = false ∧
    base.inBank (.a 2 true) = false ∧ base.inBank (.f 3 false) = false ∧ base.inBank (.idx 1 false .ix) = false :=
  ⟨⟨_, rfl⟩, rfl, rfl, rfl, rfl⟩

theorem witness_HaltedChangesNothing : (base.setHalted true).quiet ∧ (base.setHalted true).halted = true ∧
    (base.setHalted true).standby = false := ⟨⟨rfl, rfl⟩, rfl, rfl⟩

/-- A state in standby that a bus request wakes. -/
def sleeping : State := under ((base.ioWrite 0x16 0xC0).setStandby true) { Inputs.quiet with busReq := true }

theorem witness_StandbyWaits : sleeping.quiet ∧ sleeping.standby = true ∧ sleeping.now.busReq = true ∧
    sleeping.io.smcr.getLsbD 6 = true ∧ sleeping.sr.getLsbD 1 = false := ⟨⟨rfl, rfl⟩, rfl, rfl, rfl, rfl⟩

theorem witness_NmiEntry : (under base edge).now.reset = false ∧ (under base edge).ddir = none ∧
    (under base edge).now.nmi = true ∧ ({ base with nmiPending := true } : State).now.reset = false := ⟨rfl, rfl, rfl, rfl⟩

/-- A state in which the input of a number is accepted, in an interrupt mode. -/
def taking (sr : Long) (n : Nat) (instr : List Byte) : State :=
  under (((base.setSp 0x8000).srUpdate 0xFF sr).ioWrite 0x17 0x0F) { line n with ackInstr := instr, ackVector := 0x3400 }

theorem witness_ModeZeroEntry : (taking 0x20 0 [0xFF]).sampled.accepted (taking 0x20 0 [0xFF]).now = some (.int 0) ∧
    (taking 0x20 0 [0xFF]).im = 0 ∧ (taking 0x20 0 [0xFF]).now.ackInstr = [0xC7 ||| ((7 : BitVec 3).setWidth 8 <<< 3)] ∧
    (taking 0x20 0 [0xCD, 0x34, 0x12]).now.ackInstr = [0xCD, 0x34, 0x12] := ⟨rfl, rfl, rfl, rfl⟩

theorem witness_ModeZeroEntry_refused : (taking 0x20 0 []).sampled.accepted (taking 0x20 0 []).now = some (.int 0) ∧
    (∀ p : BitVec 3, (taking 0x20 0 []).now.ackInstr ≠ [0xC7 ||| (p.setWidth 8 <<< 3)]) ∧
    ∀ lo hi : Byte, (taking 0x20 0 []).now.ackInstr ≠ [0xCD, lo, hi] :=
  ⟨rfl, fun _ h => List.cons_ne_nil _ _ h.symm, fun _ _ h => List.cons_ne_nil _ _ h.symm⟩

theorem witness_ModeOneEntry : (taking 0x28 0 []).now.reset = false ∧
    (taking 0x28 0 []).sampled.accepted (taking 0x28 0 []).now = some (.int 0) ∧ (taking 0x28 0 []).im = 1 := ⟨rfl, rfl, rfl⟩

theorem witness_ModeTwoEntry : (taking 0x30 0 []).now.reset = false ∧
    (taking 0x30 0 []).sampled.accepted (taking 0x30 0 []).now = some (.int 0) ∧ (taking 0x30 0 []).im = 2 := ⟨rfl, rfl, rfl⟩

theorem witness_ModeThreeEntry : (taking 0x38 0 []).now.reset = false ∧
    (taking 0x38 0 []).sampled.accepted (taking 0x38 0 []).now = some (.int 0) ∧ (taking 0x38 0 []).im = 3 := ⟨rfl, rfl, rfl⟩

theorem witness_AssignedVectorEntry : (taking 0x20 1 []).now.reset = false ∧
    (taking 0x20 1 []).sampled.accepted (taking 0x20 1 []).now = some (.int 1) ∧
    (taking 0x20 2 []).sampled.accepted (taking 0x20 2 []).now = some (.int 2) ∧
    (taking 0x20 3 []).sampled.accepted (taking 0x20 3 []).now = some (.int 3) := ⟨rfl, rfl, rfl, rfl⟩

/-- A state at an unassigned encoding. -/
def astray : State := base.holding 0x100 [0xED, 0xFE]

theorem witness_TrapEntry : astray.runs ∧ (∃ err, astray.decoded = .error err) ∧ astray.fetchesStale astray.opcodeSpan = false ∧
    astray.params.trapEntry = .real := ⟨⟨⟨rfl, rfl⟩, rfl, rfl⟩, ⟨_, rfl⟩, rfl, rfl⟩

/-- The same with the default of `TRAP_ENTRY`. -/
def astrayFault : State := { astray with params := { astray.params with trapEntry := .fault } }

theorem witness_TrapEntry_fault : astrayFault.runs ∧ (∃ err, astrayFault.decoded = .error err) ∧
    astrayFault.fetchesStale astrayFault.opcodeSpan = false ∧ astrayFault.params.trapEntry = .fault :=
  ⟨⟨⟨rfl, rfl⟩, rfl, rfl⟩, ⟨_, rfl⟩, rfl, rfl⟩

/-- A state whose next byte was written inside the fetch window. -/
def prefetched : State := { base with stale := [0x100] }

theorem witness_StaleFetchRefused : prefetched.runs ∧ (∃ x, prefetched.decoded = .ok (.nop, x) ∧
    prefetched.fetchesStale (maxLength - x.length) = true) := ⟨⟨⟨rfl, rfl⟩, rfl, rfl⟩, _, rfl, rfl⟩

theorem witness_ReturnUndoesNmi : Invariant (under base edge) ∧ (under base edge).stackIsRam (under base edge).modeBytes ∧
    (under base edge).now.reset = false ∧ (under base edge).ddir = none ∧ (under base edge).now.nmi = true :=
  ⟨by unfold Invariant; decide, fun _ _ => rfl, rfl, rfl, rfl⟩

theorem witness_PopUndoesPush : Invariant base ∧ base.stackIsRam base.formatBytes := ⟨by unfold Invariant; decide, fun _ _ => rfl⟩

theorem witness_DirectiveLastsOneInstruction : (base.holding 0x100 [0xFD, 0xC0]).runsInstr .ddirLw [0, 0, 0, 0, 0] ∧
    ∃ t, step (base.holding 0x100 [0xFD, 0xC0]) = .next t := ⟨⟨⟨⟨rfl, rfl⟩, rfl, rfl⟩, rfl, rfl⟩, _, rfl⟩

/-- A state with HL odd and a choice of `ODD_BLOCK_WORD`. -/
def oddly (c : OddBlockWord) : State := { base.setPair .hl 0x1001 with params := { base.params with oddBlockWord := c } }

theorem witness_OddWordTransfers : ((oddly .refuse).wordTransferEffect .ldiw).isSome = true ∧
    (oddly .refuse).wordAligned = false ∧ ((oddly .fault).wordTransferEffect .lddrw).isSome = true ∧
    (oddly .fault).wordAligned = false ∧ ((oddly .bytewise).wordTransferEffect .ldirw).isSome = true ∧
    (oddly .bytewise).wordAligned = false := ⟨rfl, rfl, rfl, rfl, rfl, rfl⟩

theorem witness_DivisionCorner : base.divisor (.divuwHlNn (.i16 0)) = some 0 ∧ base.divides 0 = false ∧
    (base.setPair .hl 0x10000).divisor (.divuwHlNn (.i16 1)) = some 1 ∧
    (base.setPair .hl 0x10000).divides 1 = false := by decide

theorem witness_ModeBitsSetAndClear : ∃ t, exec .setcLw base = .next t ∧ t.ddir = none := ⟨_, rfl, rfl⟩

theorem witness_RelativeCallsPushAndGo : ∃ d : BitVec 8, Instr.calrE8 0x10 = .calrE8 d ∧ (16 : Int) = d.toInt := ⟨0x10, rfl, rfl⟩

theorem witness_LowerMemorySelect : selecting.io.msmer.getLsbD 7 = true ∧ selecting.io.msmer.getLsbD 0 = true ∧
    selecting.io.lmcs1 = 0xFF ∧ selecting.io.lmcs0 &&& 0xF0 = 0xF0 := ⟨rfl, rfl, rfl, rfl⟩

theorem witness_WordBlockTransfers : base.wordAligned = true ∧ (base.wordTransferEffect .ldirw).isSome = true := ⟨rfl, rfl⟩

theorem witness_DirectivesSetTheirParts : (Instr.ddirW, (⟨some false, .zero⟩ : Ddir)) ∈ [(.ddirW, ⟨some false, .zero⟩)] := by decide

theorem witness_BytesAreLoadedAndStored : (base.loadByteEffect (.ldRN .b 5)).isSome = true ∧
    (base.storeByteEffect (.ldIndHlN 5)).isSome = true ∧
    (base.interruptRegisterEffect .ldAI).isSome = true := ⟨rfl, rfl, rfl⟩

theorem witness_WordsAreLoadedAndStored : (base.loadWideEffect (.ldDdNn .sp (.i16 5))).isSome = true ∧
    (base.storeWideEffect (.ldDirNnHl (.i16 5))).isSome = true := ⟨rfl, rfl⟩

theorem witness_PushesAndPops : (base.pushEffect (.pushQq .bc)).isSome = true ∧
    (base.popEffect (.popQq .bc)).isSome = true := ⟨rfl, rfl⟩

theorem witness_ExchangesAndSetSwitches : (base.switchEffect .exx).isSome = true ∧
    (base.exchangeEffect .exDeHl).isSome = true := ⟨rfl, rfl⟩

theorem witness_BlockTransfersAndSearches : (base.transferEffect .ldir).isSome = true ∧
    (base.searchEffect .cpir).isSome = true := ⟨rfl, rfl⟩

theorem witness_ByteArithmetic : (base.arithmetic8Effect (.addAN 5)).isSome = true := rfl

theorem witness_ByteLogic : (base.logic8Effect (.andN 5)).isSome = true := rfl

theorem witness_ByteCounts : (base.count8Effect (.incR .a)).isSome = true := rfl

theorem witness_AccumulatorAdjusts : (base.accumulatorEffect .daa).isSome = true := rfl

theorem witness_ProcessorControl : (base.controlEffect .halt).isSome = true := rfl

theorem witness_SelectRegisterWrites : (base.selectRegisterEffect .setcXm).isSome = true := rfl

theorem witness_AddressArithmetic : (base.addressArithmeticEffect (.addHlDd .de)).isSome = true := rfl

theorem witness_WordArithmetic : (base.arithmetic16Effect (.sbcHlDd .de)).isSome = true := rfl

theorem witness_WordLogic : (base.logic16Effect (.andwHlPp .de)).isSome = true := rfl

theorem witness_Multiplications : (base.multiplyEffect (.mltDd .bc)).isSome = true := rfl

theorem witness_Divisions : (base.divideEffect (.divuwHlNn (.i16 5))).isSome = true := rfl

theorem witness_ByteRotatesAndShifts : (base.rotateEffect (.rlcR .b)).isSome = true ∧
    (base.digitEffect .rld).isSome = true := ⟨rfl, rfl⟩

theorem witness_WordRotatesAndShifts : (base.rotateWordEffect (.rlcwWop .bc)).isSome = true := rfl

theorem witness_BitInstructions : (base.bitEffect (.bitBR 0 .b)).isSome = true := rfl

theorem witness_Jumps : (base.jumpEffect (.jpNn (.i16 5))).isSome = true := rfl

theorem witness_CallsAndReturns : (base.callEffect (.rstP 1)).isSome = true ∧
    (base.returnEffect .ret).isSome = true := ⟨rfl, rfl⟩

theorem witness_InputAndOutput : (base.inputEffect (.inAPortN 5)).isSome = true ∧
    (base.outputEffect (.outPortNA 5)).isSome = true := ⟨rfl, rfl⟩

theorem witness_ByteBlockInputAndOutput : (base.blockIoEffect .inir).isSome = true := rfl

theorem witness_WordBlockInputAndOutput : (base.blockWordIoEffect .inirw).isSome = true := rfl

theorem witness_InternalInputAndOutput : (base.internalIoEffect (.tstioN 5)).isSome = true ∧
    (base.internalBlockEffect .otimr).isSome = true := ⟨rfl, rfl⟩

end Sys2Proof.Tests
end

namespace Sys2Proof.Proofs

open Sys2Proof Sys2Proof.Machine

/-! ## How a word of two bytes is read -/

/-- A row without immediate fields takes the opcode byte and nothing after it. -/
theorem decodeIn_done {page : Page} {rows : List (Row Rest)} {e : Ext} {op : Byte} {i : Instr} {bs : List Byte}
    (h : lookup rows op = some (.done i)) : decodeIn page rows e op bs = .ok (i, bs) := by
  simp [decodeIn, h, Rest.fill]

/-- R151: a word of page ED without immediate fields, read under any directive. -/
theorem readAs_ed {op : Byte} {i : Instr} (hop : op ≠ 0xCB) (h : lookup edRows op = some (.done i)) : ReadAs [0xED, op] i := by
  intro e rest
  have hed : decodeEd e (op :: rest) = .ok (i, rest) := (if_neg hop).trans (decodeIn_done h)
  exact hed

/-- R149: a word of page DD or FD without immediate fields, read under any directive. -/
theorem readAs_idx (y : Idx) {op : Byte} {i : Instr} (hop : op ≠ 0xCB) (h : lookup (idxRows y) op = some (.done i)) :
    ReadAs [y.byte, op] i := by
  intro e rest
  have hidx : decodeIdx y e (op :: rest) = .ok (i, rest) := (if_neg hop).trans (decodeIn_done h)
  cases y <;> exact hidx

/-! ## Instructions that write registers and nothing else -/

/-- Whatever is no register is as it was: memory, the pending directive, the bus and what the environment holds. -/
structure SameOutside (s t : State) : Prop where
  mem : SameMem s t
  ddir : t.ddir = s.ddir
  portIn : t.portIn = s.portIn
  busLog : t.busLog = s.busLog
  inputs : t.inputs = s.inputs
  clock : t.clock = s.clock
  stale : t.stale = s.stale
  params : t.params = s.params

theorem SameOutside.trans {s t u : State} (h : SameOutside s t) (k : SameOutside t u) : SameOutside s u where
  mem a := (k.mem a).trans (h.mem a)
  ddir := k.ddir.trans h.ddir
  portIn := k.portIn.trans h.portIn
  busLog := k.busLog.trans h.busLog
  inputs := k.inputs.trans h.inputs
  clock := k.clock.trans h.clock
  stale := k.stale.trans h.stale
  params := k.params.trans h.params

section
variable (s : State)

theorem sameOutside_advance (n : Nat) : SameOutside s (s.advance n) := by
  constructor <;> simp [SameMem]

theorem sameOutside_srToggle (mask : Long) : SameOutside s (s.srToggle mask) := by
  constructor <;> simp [SameMem]

theorem sameOutside_setPair (p : Pair) (v : Long) : SameOutside s (s.setPair p v) := by
  constructor <;> simp [SameMem]

theorem sameOutside_setIdx (y : Idx) (v : Long) : SameOutside s (s.setIdx y v) := by
  constructor <;> simp [SameMem]

end

/-- PC past the instruction and one register written make the effect that writes this register. -/
theorem hasEffect_of_write {s t : State} {i : Instr} {n : Nat} {l : Loc} {v : Long} (hn : (encode i).length = n) (hl : l ≠ .pc)
    (hout : SameOutside (s.advance n) t) (hlook : ∀ m, t.look m = if m = l then v else (s.advance n).look m) :
    HasEffect s i { writes := [(l, v)] } t := by
  obtain ⟨hmem, hddir, hport, hbus, hinputs, hclock, hstale, hparams⟩ := (sameOutside_advance s n).trans hout
  have hpc : t.pc = s.after i := by
    have hat : t.look .pc = (s.advance n).look .pc := by rw [hlook, if_neg hl.symm]
    rw [State.after, hn]
    exact hat
  have hrest : ∀ m, m ≠ .pc → m ≠ l → t.look m = s.look m := by
    intro m hm hml
    rw [hlook, if_neg hml, look_advance, if_neg hm]
  refine hasEffect_intro hpc ?_ ?_ ?_ hmem hddir hport (fun _ => hbus) hinputs hclock hstale hparams
  · simp [hlook]
  · intro m hm
    simp only [Effect.places, List.map_cons, List.map_nil, List.append_nil, List.mem_cons, List.not_mem_nil, or_false,
      not_or] at hm
    obtain ⟨hmpc, hml⟩ := hm
    exact hrest m hmpc hml
  · intro P hP
    cases hP

/-! ## The toggles of the main sets (R331 to R333) -/

/-- Taking the inverted bits of a mask inverts the bits of this mask. -/
theorem maskedBits_not (mask v : Long) : maskedBits mask v (~~~v) = v ^^^ mask := by
  ext k hk
  simp only [maskedBits, BitVec.getElem_or, BitVec.getElem_and, BitVec.getElem_not, BitVec.getElem_xor]
  cases v[k] <;> cases mask[k] <;> rfl

/-- A set switch has the effect that inverts the bits of its mask in SR. -/
theorem hasEffect_srToggle (s : State) {i : Instr} {n : Nat} (mask : Long) (hn : (encode i).length = n) :
    HasEffect s i { writes := [(.sr, s.sr ^^^ mask)] } ((s.advance n).srToggle mask) := by
  refine hasEffect_of_write hn (by simp) (sameOutside_srToggle _ mask) fun m => ?_
  rw [look_srToggle, maskedBits_not]
  rfl

theorem exec_exall (s : State) : exec .exall s = .next ((s.advance 2).srToggle 0x01010100) := rfl

theorem exec_exxx (s : State) : exec .exxx s = .next ((s.advance 2).srToggle 0x00010000) := rfl

theorem exec_exxy (s : State) : exec .exxy s = .next ((s.advance 2).srToggle 0x01000000) := rfl

/-- Settles O26: each toggle is one `srToggle`, whose bits come out as an exclusive or. -/
theorem mainSetsOfRegistersToggle : Obligations.MainSetsOfRegistersToggle := by
  refine ⟨readAs_ed (by decide) rfl, readAs_idx .ix (by decide) rfl, readAs_idx .iy (by decide) rfl,
    fun s => ⟨?_, ?_, ?_⟩⟩
  · exact ⟨_, exec_exall s, hasEffect_srToggle s _ rfl⟩
  · exact ⟨_, exec_exxx s, hasEffect_srToggle s _ rfl⟩
  · exact ⟨_, exec_exxy s, hasEffect_srToggle s _ rfl⟩

/-! ## The exchange of halves (R338, R339) -/

/-- The two halves exchanged are a rotation by half the width. -/
theorem swapHalves_eq_rotateLeft (v : Long) : swapHalves v = v.rotateLeft 16 := by
  ext k hk
  rw [swapHalves, BitVec.getElem_append, BitVec.getElem_rotateLeft]
  by_cases h : k < 16
  · simp [ext16, h, Nat.add_comm, BitVec.getLsbD_eq_getElem (show k + 16 < 32 by omega)]
  · simp [lo16, h, BitVec.getLsbD_eq_getElem (show k - 16 < 32 by omega)]

/-- The selected BC, DE or HL written by an instruction. -/
theorem hasEffect_setPair (s : State) {i : Instr} {n : Nat} (p : Pair) (v : Long) (hn : (encode i).length = n) :
    HasEffect s i { writes := [(s.locPair p, v)] } ((s.advance n).setPair p v) :=
  hasEffect_of_write hn (by simp [State.locPair]) (sameOutside_setPair _ p v) (look_setPair _ p v)

/-- The selected IX or IY written by an instruction. -/
theorem hasEffect_setIdx (s : State) {i : Instr} {n : Nat} (y : Idx) (v : Long) (hn : (encode i).length = n) :
    HasEffect s i { writes := [(s.locIdx y, v)] } ((s.advance n).setIdx y v) :=
  hasEffect_of_write hn (by simp [State.locIdx]) (sameOutside_setIdx _ y v) (look_setIdx _ y v)

theorem exec_swapPp (s : State) (p : Pair) :
    exec (.swapPp p) s = .next ((s.advance 2).setPair p (swapHalves (s.pair p))) := rfl

theorem exec_swapXy (s : State) (y : Idx) :
    exec (.swapXy y) s = .next ((s.advance 2).setIdx y (swapHalves (s.idx y))) := rfl

/-- Settles O27: SWAP writes the exchanged halves back to the register it read, at full width whatever the format. -/
theorem swapExchangesHalves : Obligations.SwapExchangesHalves := by
  refine ⟨readAs_ed (by decide) rfl, readAs_ed (by decide) rfl, readAs_ed (by decide) rfl, readAs_idx .ix (by decide) rfl,
    readAs_idx .iy (by decide) rfl, fun s => ⟨fun p => ?_, fun y => ?_⟩⟩
  · rw [← swapHalves_eq_rotateLeft]
    exact ⟨_, exec_swapPp s p, hasEffect_setPair s p _ rfl⟩
  · rw [← swapHalves_eq_rotateLeft]
    exact ⟨_, exec_swapXy s y, hasEffect_setIdx s y _ rfl⟩

end Sys2Proof.Proofs

namespace Sys2Proof.Proofs

open Sys2Proof Sys2Proof.Machine

/-! ## The sign extension of HL (R435) -/

/-- The sign extension to 32 bits keeps the signed value. -/
theorem sext32_eq_ofInt {n : Nat} (v : BitVec n) : sext32 v = BitVec.ofInt 32 v.toInt := rfl

theorem exec_extsw (s : State) : exec .extsw s = .next ((s.advance 2).setPair .hl (sext32 (lo16 (s.pair .hl)))) := rfl

/-- Settles O28: EXTSW is one write of the selected HL, at full width whatever the format. -/
theorem extendWordHl : Obligations.ExtendWordHl := by
  refine ⟨readAs_ed (by decide) rfl, fun s => ?_⟩
  rw [← sext32_eq_ofInt]
  exact ⟨_, exec_extsw s, hasEffect_setPair s .hl _ rfl⟩

/-! ## Single bits of SR set and cleared (R453 to R455) -/

/-- Taking the bits of a mask from the mask itself sets them. -/
theorem maskedBits_self (mask v : Long) : maskedBits mask v mask = v ||| mask := by
  ext k hk
  simp only [maskedBits, BitVec.getElem_or, BitVec.getElem_and, BitVec.getElem_not]
  cases v[k] <;> cases mask[k] <;> rfl

/-- Taking the bits of a mask from 0 clears them. -/
theorem maskedBits_zero (mask v : Long) : maskedBits mask v 0 = v &&& ~~~mask := by
  simp [maskedBits]

theorem sameOutside_srBits (s : State) (mask : Long) (b : Bool) : SameOutside s (s.srBits mask b) := by
  constructor <;> simp [SameMem]

/-- An instruction that sets the bits of a mask in SR. -/
theorem hasEffect_srBits_true (s : State) {i : Instr} {n : Nat} (mask : Long) (hn : (encode i).length = n) :
    HasEffect s i { writes := [(.sr, s.sr ||| mask)] } ((s.advance n).srBits mask true) := by
  refine hasEffect_of_write hn (by simp) (sameOutside_srBits _ mask true) fun m => ?_
  rw [look_srBits, if_pos rfl, maskedBits_self]
  rfl

/-- An instruction that clears the bits of a mask in SR. -/
theorem hasEffect_srBits_false (s : State) {i : Instr} {n : Nat} (mask : Long) (hn : (encode i).length = n) :
    HasEffect s i { writes := [(.sr, s.sr &&& ~~~mask)] } ((s.advance n).srBits mask false) := by
  refine hasEffect_of_write hn (by simp) (sameOutside_srBits _ mask false) fun m => ?_
  rw [look_srBits, if_neg Bool.false_ne_true, maskedBits_zero]
  rfl

/-- R15: with no directive pending, the format in force is the one SR.LW names. -/
theorem lwEff_of_ddir_none {s : State} (h : s.ddir = none) : s.lwEff = s.lw := by
  simp [State.lwEff, h]

theorem lw_srBits_true (s : State) : (s.srBits 0x40 true).lw = true := by
  have hsr : (s.srBits 0x40 true).sr = s.sr ||| 0x40 := maskedBits_self 0x40 s.sr
  rw [State.lw, hsr]
  simp

theorem exec_rescLck (s : State) : exec .rescLck s = .next ((s.advance 2).srBits 0x2 false) := rfl

theorem exec_setcLw (s : State) : exec .setcLw s = .next ((s.advance 2).srBits 0x40 true) := rfl

theorem exec_rescLw (s : State) : exec .rescLw s = .next ((s.advance 2).srBits 0x40 false) := rfl

/-- R454: after SETC LW with no directive pending, operands are long words. -/
theorem lwEff_after_setcLw {s t : State} (h : exec .setcLw s = .next t) (hd : t.ddir = none) : t.lwEff = true := by
  rw [exec_setcLw] at h
  cases h
  rw [lwEff_of_ddir_none hd, lw_srBits_true]

/-- Settles O30: each of the three is one `srBits` of its mask, and the format in force is read from the SR it leaves. -/
theorem modeBitsSetAndClear : Obligations.ModeBitsSetAndClear := by
  refine ⟨readAs_ed (by decide) rfl, readAs_idx .ix (by decide) rfl, readAs_idx .ix (by decide) rfl,
    fun s => ⟨?_, ?_, ?_, fun _ => lwEff_after_setcLw⟩⟩
  · exact ⟨_, exec_rescLck s, hasEffect_srBits_false s 0x2 rfl⟩
  · exact ⟨_, exec_setcLw s, hasEffect_srBits_true s 0x40 rfl⟩
  · exact ⟨_, exec_rescLw s, hasEffect_srBits_false s 0x40 rfl⟩

/-! ## The decoder directives (R461 to R468) -/

/-- PC past the instruction and a directive made pending are the effect of that directive. -/
theorem hasEffect_setDdir (s : State) {i : Instr} {n : Nat} (d : Ddir) (hn : (encode i).length = n) :
    HasEffect s i { ddir := some d } ((s.advance n).setDdir (some d)) := by
  obtain ⟨hmem, -, hport, hbus, hinputs, hclock, hstale, hparams⟩ := sameOutside_advance s n
  refine hasEffect_intro ?_ ?_ ?_ ?_ hmem rfl hport (fun _ => hbus) hinputs hclock hstale hparams
  · subst hn
    rfl
  · simp
  · intro m hm
    rw [look_setDdir, look_advance, if_neg (List.ne_of_not_mem_cons hm)]
  · intro P hP
    cases hP

/-- Each directive, with the parts its rule names. -/
def directives : List (Instr × Ddir) :=
  [(.ddirW, ⟨some false, .zero⟩), (.ddirIbW, ⟨some false, .ib⟩), (.ddirIwW, ⟨some false, .iw⟩),
    (.ddirIb, ⟨none, .ib⟩), (.ddirLw, ⟨some true, .zero⟩), (.ddirIbLw, ⟨some true, .ib⟩),
    (.ddirIwLw, ⟨some true, .iw⟩), (.ddirIw, ⟨none, .iw⟩)]

theorem exec_directive (s : State) : ∀ x ∈ directives, exec x.1 s = .next ((s.advance 2).setDdir (some x.2)) := by
  simp only [directives, List.forall_mem_cons]
  exact ⟨rfl, rfl, rfl, rfl, rfl, rfl, rfl, rfl, List.forall_mem_nil _⟩

theorem encode_length_directive : ∀ x ∈ directives, (encode x.1).length = 2 := by decide

/-- Settles O31: every directive is one `setDdir` of its parts, whatever was pending before. -/
theorem directivesSetTheirParts : Obligations.DirectivesSetTheirParts := by
  refine ⟨readAs_idx .ix (by decide) rfl, readAs_idx .ix (by decide) rfl, readAs_idx .ix (by decide) rfl,
    readAs_idx .ix (by decide) rfl, readAs_idx .iy (by decide) rfl, readAs_idx .iy (by decide) rfl,
    readAs_idx .iy (by decide) rfl, readAs_idx .iy (by decide) rfl, fun s i d h => ?_⟩
  exact ⟨_, exec_directive s (i, d) h, hasEffect_setDdir s d (encode_length_directive (i, d) h)⟩

/-! ## The tests of SR (R456, R457) -/

theorem sameOutside_setFlags (s : State) (fl : Flags) : SameOutside s (s.setFlags fl) := by
  constructor <;> simp [SameMem]

/-- PC past the instruction and the selected F computed make the effect that names these flags. -/
theorem hasEffect_setFlags (s : State) {i : Instr} {n : Nat} (fl : Flags) (hn : (encode i).length = n) :
    HasEffect s i { flags := flagsAre fl } ((s.advance n).setFlags fl) := by
  obtain ⟨hmem, hddir, hport, hbus, hinputs, hclock, hstale, hparams⟩ :=
    (sameOutside_advance s n).trans (sameOutside_setFlags _ fl)
  refine hasEffect_intro ?_ ?_ ?_ ?_ hmem hddir hport (fun _ => hbus) hinputs hclock hstale hparams
  · subst hn
    rfl
  · simp
  · intro m hm
    have hpc : m ≠ .pc := List.ne_of_not_mem_cons hm
    have hf : m ≠ (s.advance n).locF := List.ne_of_not_mem_cons (List.not_mem_of_not_mem_cons hm)
    rw [look_setFlags, if_neg hf, look_advance, if_neg hpc]
  · intro P hP
    cases hP
    exact flags_setFlags _ fl

theorem exec_btest (s : State) :
    exec .btest s = .next ((s.advance 2).setFlags { s.flags with s := s.ixp, z := s.iyp, pv := s.afp, c := s.alt }) := rfl

theorem exec_mtest (s : State) :
    exec .mtest s = .next ((s.advance 2).setFlags { s.flags with s := s.xm, z := s.lw, c := s.lck }) := rfl

/-- Settles O33: each test is one computed write of F, with the bits of SR that its rule names. -/
theorem testsOfModeAndBanks : Obligations.TestsOfModeAndBanks := by
  refine ⟨readAs_ed (by decide) rfl, readAs_idx .ix (by decide) rfl, fun s => ⟨?_, ?_⟩⟩
  · exact ⟨_, exec_btest s, hasEffect_setFlags s _ rfl⟩
  · exact ⟨_, exec_mtest s, hasEffect_setFlags s _ rfl⟩

end Sys2Proof.Proofs

namespace Sys2Proof.Proofs

open Sys2Proof Sys2Proof.Machine

/-! ## Words of one byte, and words of two bytes with a field after them -/

/-- R166 steps 5 and 6: the row of an opcode byte and what it reads after this byte make the instruction. -/
theorem decodeIn_fill {page : Page} {rows : List (Row Rest)} {t : Rest} {e : Ext} {op : Byte} {i : Instr} {bs rest : List Byte}
    (h : lookup rows op = some t) (hf : t.fill e bs = some (i, rest)) : decodeIn page rows e op bs = .ok (i, rest) := by
  simp [decodeIn, h, hf]

/-- R147: a word of the base page without immediate fields, read under any directive. -/
theorem readAs_base {op : Byte} {i : Instr} (hop : op ∉ [0xCB, 0xED, 0xDD, 0xFD]) (h : lookup baseRows op = some (.done i)) :
    ReadAs [op] i := by
  intro e rest
  simp only [List.mem_cons, List.not_mem_nil, or_false, not_or] at hop
  obtain ⟨hcb, hed, hdd, hfd⟩ := hop
  have hdecode : decode e (op :: rest) = decodeIn .base baseRows e op rest :=
    (if_neg hcb).trans ((if_neg hed).trans ((if_neg hdd).trans (if_neg hfd)))
  exact hdecode.trans (decodeIn_done h)

/-- R151: a word of page ED with a field after its opcode byte. -/
theorem readAs_ed_field {op : Byte} {bs : List Byte} {t : Rest} {i : Instr} (hop : op ≠ 0xCB) (h : lookup edRows op = some t)
    (hf : ∀ e rest, t.fill e (bs ++ rest) = some (i, rest)) : ReadAs (0xED :: op :: bs) i := by
  intro e rest
  have hed : decodeEd e (op :: (bs ++ rest)) = .ok (i, rest) := (if_neg hop).trans (decodeIn_fill h (hf e rest))
  exact hed

/-- R149: a word of page DD or FD with a field after its opcode byte. -/
theorem readAs_idx_field (y : Idx) {op : Byte} {bs : List Byte} {t : Rest} {i : Instr} (hop : op ≠ 0xCB)
    (h : lookup (idxRows y) op = some t) (hf : ∀ e rest, t.fill e (bs ++ rest) = some (i, rest)) :
    ReadAs (y.byte :: op :: bs) i := by
  intro e rest
  have hidx : decodeIdx y e (op :: (bs ++ rest)) = .ok (i, rest) := (if_neg hop).trans (decodeIn_fill h (hf e rest))
  cases y <;> exact hidx

/-- R105: a field of two bytes is read from its low and its high byte. -/
theorem take16_bytes (v : BitVec 16) (rest : List Byte) : take16 (bytes16 v ++ rest) = some (v, rest) := by
  have hv : v.extractLsb' 8 8 ++ v.extractLsb' 0 8 = v := by
    rw [BitVec.extractLsb'_append_extractLsb'_eq_extractLsb' (show 8 = 0 + 8 from rfl)]
    exact BitVec.extractLsb'_eq_self
  exact congrArg (fun w => some (w, rest)) hv

/-- R105: a field of three bytes is read from its bytes, the lowest first. -/
theorem take24_bytes (v : BitVec 24) (rest : List Byte) : take24 (bytes24 v ++ rest) = some (v, rest) := by
  have hv : v.extractLsb' 16 8 ++ v.extractLsb' 8 8 ++ v.extractLsb' 0 8 = v := by
    rw [BitVec.extractLsb'_append_extractLsb'_eq_extractLsb' (show 16 = 8 + 8 from rfl),
      BitVec.extractLsb'_append_extractLsb'_eq_extractLsb' (show 8 = 0 + 8 from rfl)]
    exact BitVec.extractLsb'_eq_self
  exact congrArg (fun w => some (w, rest)) hv

theorem fill_e16 {e : Ext} (f : BitVec 16 → Instr) (v : BitVec 16) (rest : List Byte) :
    (Rest.e16 f).fill e (bytes16 v ++ rest) = some (f v, rest) := by
  rw [Rest.fill, take16_bytes, Option.map_some]

theorem fill_e24 {e : Ext} (f : BitVec 24 → Instr) (v : BitVec 24) (rest : List Byte) :
    (Rest.e24 f).fill e (bytes24 v ++ rest) = some (f v, rest) := by
  rw [Rest.fill, take24_bytes, Option.map_some]

/-! ## Calls (R621) -/

/-- R36: in native mode only the last narrowing of a sum counts. -/
theorem ringed_add_ringed (xm : Bool) (a b : Long) : ringed xm (ringed xm a + b) = ringed xm (a + b) := by
  cases xm with
  | true => rfl
  | false =>
    apply BitVec.eq_of_toNat_eq
    simp [ringed, zext32, lo16]

/-- A byte is an address that both modes hold. -/
theorem ringed_zext32_byte (xm : Bool) (b : Byte) : ringed xm (zext32 b) = zext32 b := by
  cases xm with
  | true => rfl
  | false =>
    apply BitVec.eq_of_toNat_eq
    have := b.isLt
    simp [ringed, zext32, lo16]
    omega

section
variable (s : State)

theorem stored_of_call (ret target : Long) :
    Stored s (s.call ret target) (s.spDown s.modeBytes) s.modeBytes ret ∧
      SameMemBut s (s.call ret target) (s.spDown s.modeBytes) s.modeBytes :=
  stored_of_push s.xm ret fun _ => rfl

theorem busLog_call (ret target : Long)
    (h : ∀ k, k < s.modeBytes → s.kind (s.spDown s.modeBytes + BitVec.ofNat 32 k) ≠ .device) :
    (s.call ret target).busLog = s.busLog :=
  busLog_push s.xm ret h

/-- R621: a call, whatever instruction makes it, has the effect that pushes `ret` and goes where PC holds the target. -/
theorem hasEffect_call (i : Instr) (ret : Long) {target dest : Long} (hdest : ringed s.xm target = dest) :
    HasEffect s i { s.pushes s.modeBytes ret with goto := some dest } (s.call ret target) := by
  refine hasEffect_intro ?_ ?_ ?_ ?_ (stored_of_call s ret target) (push_ddir s s.xm ret) (push_portIn s s.xm ret) ?_
    (push_inputs s s.xm ret) (push_clock s s.xm ret) (push_stale s s.xm ret) (push_params s s.xm ret)
  · exact (look_call s ret target .pc).trans hdest
  · intro w hw
    obtain rfl := List.mem_singleton.1 hw
    rw [look_call, spDown_modeBytes]
    rfl
  · intro l hl
    have hpc : l ≠ .pc := List.ne_of_not_mem_cons hl
    have hsp : l ≠ .sp := List.ne_of_not_mem_cons (List.not_mem_of_not_mem_cons hl)
    rw [look_call, if_neg hpc, if_neg hsp]
  · intro P hP
    cases hP
  · exact fun hoff => busLog_call s ret target (hoff _ rfl)

end

/-! ## The restarts (R628) -/

theorem lookup_restart (k : BitVec 3) : lookup baseRows (0xC7 ||| (k.setWidth 8 <<< 3)) = some (.done (.rstP k)) := by
  obtain ⟨k⟩ := k
  fin_cases k <;> rfl

/-- R166: none of the eight opcode bytes of RST leads to another page. -/
theorem restart_on_base_page : ∀ k : BitVec 3, 0xC7 ||| (k.setWidth 8 <<< 3) ∉ ([0xCB, 0xED, 0xDD, 0xFD] : List Byte) := by
  decide

/-- The target p is 8 times its code, as a byte. -/
theorem restart_target : ∀ k : BitVec 3, zext32 (k ++ 0#3) = zext32 (k.setWidth 8 <<< 3) := by
  decide

theorem exec_rstP (k : BitVec 3) (s : State) :
    exec (.rstP k) s = .next (s.call (ringed s.xm (s.pc + 1)) (zext32 (k ++ 0#3))) := rfl

/-- Settles O29: RST is one call, to a target below 64 that both modes hold. -/
theorem restartCalls : Obligations.RestartCalls := by
  refine fun k => ⟨readAs_base (restart_on_base_page k) (lookup_restart k), fun s => ⟨_, exec_rstP k s, ?_⟩⟩
  refine hasEffect_call s _ _ ?_
  rw [restart_target, ringed_zext32_byte]

/-! ## The relative calls (R629, R631, R633) -/

theorem exec_calrE8 (d : BitVec 8) (s : State) :
    exec (.calrE8 d) s = .next (s.call (ringed s.xm (s.pc + 3)) (ringed s.xm (s.pc + 3) + BitVec.ofInt 32 d.toInt)) := rfl

theorem exec_calrE16 (d : BitVec 16) (s : State) :
    exec (.calrE16 d) s = .next (s.call (ringed s.xm (s.pc + 4)) (ringed s.xm (s.pc + 4) + BitVec.ofInt 32 d.toInt)) := rfl

theorem exec_calrE24 (d : BitVec 24) (s : State) :
    exec (.calrE24 d) s = .next (s.call (ringed s.xm (s.pc + 5)) (ringed s.xm (s.pc + 5) + BitVec.ofInt 32 d.toInt)) := rfl

/-- Settles O32: CALR of each length is one call, relative to the address it pushes. -/
theorem relativeCallsPushAndGo : Obligations.RelativeCallsPushAndGo := by
  refine ⟨fun e => ?_, fun e => ?_, fun e => ?_, fun s i n e h => ?_⟩
  · exact readAs_ed_field (t := .e8 .calrE8) (by decide) rfl fun _ _ => rfl
  · exact readAs_idx_field .ix (t := .e16 .calrE16) (by decide) rfl fun _ => fill_e16 _ e
  · exact readAs_idx_field .iy (t := .e24 .calrE24) (by decide) rfl fun _ => fill_e24 _ e
  · obtain ⟨d, rfl, rfl, rfl⟩ | ⟨d, rfl, rfl, rfl⟩ | ⟨d, rfl, rfl, rfl⟩ := h
    · exact ⟨_, exec_calrE8 d s, hasEffect_call s _ _ (ringed_add_ringed _ _ _)⟩
    · exact ⟨_, exec_calrE16 d s, hasEffect_call s _ _ (ringed_add_ringed _ _ _)⟩
    · exact ⟨_, exec_calrE24 d s, hasEffect_call s _ _ (ringed_add_ringed _ _ _)⟩

end Sys2Proof.Proofs

namespace Sys2Proof.Proofs

open Sys2Proof Sys2Proof.Machine

/-! ## The boundary at which an event is taken (R720, R731) -/

/-- R720: nothing is accepted behind a directive. -/
theorem ddir_none_of_accepted {s : State} {e : Inputs} {ev : Event} (h : s.accepted e = some ev) : s.ddir = none := by
  unfold State.accepted at h
  split at h
  case isTrue => cases h
  case isFalse hddir => exact Option.not_isSome_iff_eq_none.1 hddir

/-- R731: a maskable input is accepted only where NMI is not pending. -/
theorem nmiPending_false_of_accepted_int {s : State} {e : Inputs} {n : Fin 4} (h : s.accepted e = some (.int n)) :
    s.nmiPending = false := by
  cases hnmi : s.nmiPending with
  | false => rfl
  | true => simp [State.accepted, ddir_none_of_accepted h, hnmi] at h

/-- R19 (e): where an event is accepted, the step is its entry, counted. -/
theorem step_of_accepted {s : State} {ev : Event} (hreset : s.now.reset = false)
    (hacc : s.sampled.accepted s.now = some ev) : step s = onNext (s.sampled.enterEvent s.now ev) State.tick := by
  simp [step, State.cycle, hreset, hacc]

/-- Counting a step changes no register. -/
theorem look_tick (s : State) (l : Loc) : s.tick.look l = s.look l := by
  cases l with
  | idx k alt y => cases y <;> rfl
  | _ => rfl

/-! ## The part all entries share (R735, R736) -/

/-- R735, R736: an entry keeps the mode. -/
theorem enter_xm (s : State) (a b : Bool) (ret : Long) : (s.enter a b ret).xm = s.xm := by
  have hsr : (s.enter a b ret).sr = withSr s.sr 0x20 a := look_enter s a b ret .sr
  rw [State.xm, hsr, xm_withSr]
  rfl

theorem enter_nmiPending (s : State) (a b : Bool) (ret : Long) : (s.enter a b ret).nmiPending = s.nmiPending := by
  rw [enter_eq, push_nmiPending]
  rfl

/-- R735, R736: what the boundary and the shared part of an entry do. The boundary changes no register but the latch of
/NMI, and no memory. -/
theorem entered_enter (s : State) (b : Bool) : Entered s b (s.sampled.enter false b s.pc) := by
  have hsp : (s.sampled.enter false b s.pc).sp = s.spDown s.modeBytes := enter_sp s.sampled false b s.pc
  obtain ⟨hstored, hmem⟩ := stored_of_push (s := s.sampled) s.xm s.pc fun x => readByte_enter s.sampled false b s.pc x
  refine ⟨?_, ?_, ?_, look_enter s.sampled false b s.pc .sr, hsp, ?_, ?_, ?_, enter_ddir _ _ _ _, enter_portIn _ _ _ _,
    enter_mem_clock _ _ _ _, enter_params _ _ _ _⟩
  · simp [State.enter]
  · simp [State.enter]
  · simp [State.enter]
  · rw [hsp]
    exact hstored
  · rw [hsp]
    exact hmem
  · intro l hl
    simp only [List.mem_cons, List.not_mem_nil, or_false, not_or] at hl
    obtain ⟨hhalted, hstandby, hief2, hsr, hlsp, hnmi⟩ := hl
    rw [look_enter]
    cases l with
    | idx k alt y => cases y <;> rfl
    | halted => exact absurd rfl hhalted
    | standby => exact absurd rfl hstandby
    | ief2 => exact absurd rfl hief2
    | sr => exact absurd rfl hsr
    | sp => exact absurd rfl hlsp
    | nmiPending => exact absurd rfl hnmi
    | _ => rfl

/-! ## The entries of the maskable inputs (R736 to R745) -/

section
variable {s : State} {n : Fin 4}

/-- R736: where the entry of an accepted input ends in a write of PC, the step is the shared part with this PC. -/
theorem answers_of_maskable_setPc {v : Long} {target : State → Long} (hreset : s.now.reset = false)
    (hacc : s.sampled.accepted s.now = some (.int n))
    (hentry : s.sampled.enterEvent s.now (.int n) = .next (s.sampled.enterMaskable.setPc v))
    (htarget : ringed s.xm v = target s.sampled.enterMaskable) : Answers (step s) (EntersAt s false target) := by
  have hddir : s.sampled.enterMaskable.ddir = none := (enter_ddir _ _ _ _).trans (ddir_none_of_accepted hacc)
  have hnmi : s.sampled.enterMaskable.nmiPending = false :=
    (enter_nmiPending _ _ _ _).trans (nmiPending_false_of_accepted_int hacc)
  have hpc : (s.sampled.enterMaskable.setPc v).pc = target s.sampled.enterMaskable := by
    rw [setPc_pc, State.enterMaskable, enter_xm]
    exact htarget
  refine ⟨(s.sampled.enterMaskable.setPc v).tick, ?_, s.sampled.enterMaskable, entered_enter s false, hpc, ?_, rfl, hnmi,
    hddir, enter_inputs _ _ _ _, congrArg (· + 1) (enter_mem_clock _ _ _ _), enter_params _ _ _ _⟩
  · rw [step_of_accepted hreset hacc, hentry]
    rfl
  · intro l hl
    rw [look_tick, look_setPc, if_neg hl]

/-- R742, R743, R745: where the entry of an accepted input goes through a vector table, PC is read after the push, in the
width of the mode. -/
theorem answers_of_maskable_vectorTo {a : Long} (hreset : s.now.reset = false)
    (hacc : s.sampled.accepted s.now = some (.int n))
    (hentry : s.sampled.enterEvent s.now (.int n) = .next (s.sampled.enterMaskable.vectorTo a)) :
    Answers (step s) (EntersAt s false fun u => ringed s.xm (u.readW s.xm a)) := by
  refine answers_of_maskable_setPc hreset hacc hentry ?_
  rw [State.enterMaskable, enter_xm]
  rfl

end

section
variable (s : State) (e : Inputs)

theorem enterEvent_int0 : s.enterEvent e (.int 0) = s.enterInt0 e := rfl

/-- R741: the entry of /INT0 in mode 1. -/
theorem enterEvent_int0_mode1 (him : s.im = 1) : s.enterEvent e (.int 0) = .next (s.enterMaskable.setPc 0x38) := by
  simp [enterEvent_int0, State.enterInt0, him]

/-- R743: the entry of /INT0 in mode 3. -/
theorem enterEvent_int0_mode3 (him : s.im = 3) :
    s.enterEvent e (.int 0) = .next (s.enterMaskable.vectorTo (s.mode3Address e.ackVector)) := by
  simp [enterEvent_int0, State.enterInt0, him]

/-- R745: the entry of /INT1 to /INT3, whatever SR.IM is. -/
theorem enterEvent_assigned {n : Fin 4} (hn : n ≠ 0) :
    s.enterEvent e (.int n) =
      .next (s.enterMaskable.vectorTo (s.assignedAddress (BitVec.ofNat 8 (4 * (n.val - 1))))) := by
  match n, hn with
  | 0, hn => exact absurd rfl hn
  | 1, _ => rfl
  | 2, _ => rfl
  | 3, _ => rfl

end

/-- Settles O15: 38h is an address that both modes hold. -/
theorem modeOneEntry : Obligations.ModeOneEntry := by
  intro s hreset hacc him
  exact answers_of_maskable_setPc hreset hacc (enterEvent_int0_mode1 _ _ him) (ringed_zext32_byte s.xm 0x38)

/-- Settles O17: the entry is one jump through the vector table, at an address that the push leaves as it was. -/
theorem modeThreeEntry : Obligations.ModeThreeEntry := by
  intro s hreset hacc him
  exact answers_of_maskable_vectorTo hreset hacc (enterEvent_int0_mode3 _ _ him)

/-- Settles O18: the three inputs differ in the offset of their entries only, which is 4 times their number less 1. -/
theorem assignedVectorEntry : Obligations.AssignedVectorEntry := by
  intro s n hreset hn hacc
  exact answers_of_maskable_vectorTo hreset hacc (enterEvent_assigned _ _ hn)

end Sys2Proof.Proofs

namespace Sys2Proof.Proofs

open Sys2Proof Sys2Proof.Machine

/-! ## What a row of a page may answer (R160, R166, R167) -/

/-- `i` is well formed, its extendable field (if it has one) has the length `x`, and `bs` is its encoding. -/
structure Says (x : Option Ext) (bs : List Byte) (i : Instr) : Prop where
  wf : i.wf = true
  ext : i.ext? = x
  bytes : encode i = bs

/-- Whatever immediate fields follow the bytes `bs`, they make an instruction that is encoded by `bs` and these fields. -/
abbrev Rest.Sound (bs : List Byte) : Rest → Prop
  | .done i => Says none bs i
  | .n8 f => ∀ n, Says none (bs ++ [n]) (f n)
  | .imm f => ∀ v, Says (some v.ext) (bs ++ v.bytes) (f v)
  | .d f => ∀ d, Says (some d.ext) (bs ++ d.bytes) (f d)
  | .dn8 f => ∀ d n, Says (some d.ext) (bs ++ d.bytes ++ [n]) (f d n)
  | .e8 f => ∀ v, Says none (bs ++ [v]) (f v)
  | .e16 f => ∀ v, Says none (bs ++ bytes16 v) (f v)
  | .e24 f => ∀ v, Says none (bs ++ bytes24 v) (f v)

/-- What a row of a page behind the bytes `pre` may answer to the opcode byte `op`. -/
abbrev soundAfter (pre : List Byte) (op : Byte) (t : Rest) : Prop := Rest.Sound (pre ++ [op]) t

/-- What a row of page DD CB d or FD CB d may answer: the displacement stands before the opcode byte. -/
abbrev soundAround (y : Idx) (op : Byte) (f : Disp → Instr) : Prop :=
  ∀ d, Says (some d.ext) ([y.byte, 0xCB] ++ d.bytes ++ [op]) (f d)

/-- Whatever a row answers to an opcode byte it matches has the property `S`. -/
def Keeps {α : Type} (S : Byte → α → Prop) (r : Row α) : Prop :=
  ∀ op x, op &&& r.mask = r.value → r.build op = some x → S op x

/-- R166 step 5: what holds of the answers of all rows holds of the answer of the page. -/
theorem lookup_keeps {α : Type} {S : Byte → α → Prop} {rows : List (Row α)} {op : Byte} {x : α}
    (hrows : ∀ r ∈ rows, Keeps S r) (h : lookup rows op = some x) : S op x := by
  induction rows with
  | nil => cases h
  | cons r rs ih =>
    obtain ⟨hr, hrs⟩ := List.forall_mem_cons.1 hrows
    rw [lookup] at h
    split at h
    · rename_i hmatch
      split at h
      · rename_i hbuild
        exact hr op x hmatch (hbuild.trans h)
      · exact ih hrs h
    · exact ih hrs h

/-! ## The field codes read back (R143) -/

/-- The field of `n` bits from bit `lo` up, and the bits of `mask`, make the whole opcode byte. -/
def Splits (mask : Byte) (lo n : Nat) : Prop := ∀ op : Byte, op = (op &&& mask) ||| at' ((field op lo n).setWidth 8) lo

/-- A field code read gives an operand that is written with this code and has the property `P`. -/
def Reads {n : Nat} {β : Type} (ofCode : BitVec n → Option β) (code : β → Byte) (P : β → Prop) : Prop :=
  ∀ c x, ofCode c = some x → c.setWidth 8 = code x ∧ P x

theorem splits_3_3 : Splits 0xC7 3 3 := by unfold Splits; decide
theorem splits_0_3 : Splits 0xF8 0 3 := by unfold Splits; decide
theorem splits_4_2 : Splits 0xCF 4 2 := by unfold Splits; decide
theorem splits_0_2 : Splits 0xFC 0 2 := by unfold Splits; decide
theorem splits_3_2 : Splits 0xE7 3 2 := by unfold Splits; decide
theorem splits_3_1 : Splits 0xF7 3 1 := by unfold Splits; decide
theorem splits_0_1 : Splits 0xFE 0 1 := by unfold Splits; decide

theorem reads_reg8 : Reads Reg8.ofCode Reg8.code fun _ => True := by
  rintro ⟨c⟩ x h
  fin_cases c <;> cases h <;> exact ⟨rfl, trivial⟩

theorem reads_reg8_besideHalf : Reads Reg8.ofCodeBesideHalf Reg8.code fun r => r.besideHalf = true := by
  rintro ⟨c⟩ x h
  fin_cases c <;> cases h <;> exact ⟨rfl, rfl⟩

theorem reads_halfSrc : Reads HalfSrc.ofCode HalfSrc.code fun src => src.wf = true := by
  rintro ⟨c⟩ x h
  fin_cases c <;> cases h <;> exact ⟨rfl, rfl⟩

theorem reads_qq : Reads Pair.ofQq Pair.qq fun _ => True := by
  rintro ⟨c⟩ x h
  fin_cases c <;> cases h <;> exact ⟨rfl, trivial⟩

theorem reads_pp : Reads Pair.ofPp Pair.pp fun _ => True := by
  rintro ⟨c⟩ x h
  fin_cases c <;> cases h <;> exact ⟨rfl, trivial⟩

theorem reads_pair4 : Reads Pair4.ofCode Pair4.code fun _ => True := by
  rintro ⟨c⟩ x h
  fin_cases c <;> cases h <;> exact ⟨rfl, trivial⟩

theorem reads_addSrc : Reads AddSrc.ofCode AddSrc.code fun _ => True := by
  rintro ⟨c⟩ x h
  fin_cases c <;> cases h <;> exact ⟨rfl, trivial⟩

theorem reads_half : Reads Half.ofCode Half.code fun _ => True := by
  rintro ⟨c⟩ x h
  fin_cases c <;> cases h <;> exact ⟨rfl, trivial⟩

theorem reads_wordOp : Reads WordOp.ofCode WordOp.code fun _ => True := by
  rintro ⟨c⟩ x h
  fin_cases c <;> cases h <;> exact ⟨rfl, trivial⟩

theorem reads_wordOp_reg : Reads WordOp.ofCodeReg WordOp.code fun x => x.isReg = true := by
  rintro ⟨c⟩ x h
  fin_cases c <;> cases h <;> exact ⟨rfl, rfl⟩

theorem reads_cond : Reads Cond.ofCode Cond.code fun _ => True := by
  rintro ⟨c⟩ x h
  fin_cases c <;> cases h <;> exact ⟨rfl, trivial⟩

theorem reads_jrCond : Reads Cond.ofJrCode Cond.code fun cc => cc.isJr = true := by
  rintro ⟨c⟩ x h
  fin_cases c <;> cases h <;> exact ⟨rfl, rfl⟩

/-! ## The rows by the fields of their opcode byte -/

section
variable {α β γ : Type} {S : Byte → α → Prop} {mask v : Byte} {lo n m : Nat}

theorem keeps_fixed {x : α} (h : S v x) : Keeps S ⟨0xFF, v, fun _ => some x⟩ := by
  intro op y hop hy
  obtain rfl : op &&& 0xFF = v := hop
  cases hy
  rwa [show op &&& 0xFF = op from BitVec.and_allOnes] at h

/-- A row with one coded field, at bit `lo`. -/
theorem keeps_at {ofCode : BitVec n → Option β} {code : β → Byte} {P : β → Prop} {f : β → α} (hs : Splits mask lo n)
    (hr : Reads ofCode code P) (h : ∀ x, P x → S (v ||| at' (code x) lo) (f x)) :
    Keeps S ⟨mask, v, fun op => (ofCode (field op lo n)).map f⟩ := by
  intro op y hop hy
  obtain rfl : op &&& mask = v := hop
  obtain ⟨x, hx, rfl⟩ := Option.map_eq_some_iff.1 hy
  obtain ⟨hcode, hP⟩ := hr _ x hx
  have hS := h x hP
  rwa [← hcode, ← hs op] at hS

/-- A row with one coded field in the lowest bits. -/
theorem keeps_low {ofCode : BitVec n → Option β} {code : β → Byte} {P : β → Prop} {f : β → α} (hs : Splits mask 0 n)
    (hr : Reads ofCode code P) (h : ∀ x, P x → S (v ||| code x) (f x)) :
    Keeps S ⟨mask, v, fun op => (ofCode (field op 0 n)).map f⟩ := by
  refine keeps_at hs hr fun x hP => ?_
  rw [at', BitVec.shiftLeft_zero]
  exact h x hP

/-- A row with a bit number or a restart code, which every value of the field is. -/
theorem keeps_number {f : Byte → α} (h : ∀ op, S (v ||| at' ((field op 3 3).setWidth 8) 3) (f op)) :
    Keeps S ⟨0xC7, v, fun op => some (f op)⟩ := by
  intro op y hop hy
  obtain rfl : op &&& 0xC7 = v := hop
  cases hy
  have hS := h op
  rwa [← splits_3_3 op] at hS

/-- A row with two coded fields, the second in the lowest bits. -/
theorem keeps_two {ofCode : BitVec n → Option β} {code : β → Byte} {P : β → Prop} {ofCode' : BitVec m → Option γ}
    {code' : γ → Byte} {Q : γ → Prop} {f : β → γ → α}
    (hs : ∀ op : Byte, op = (op &&& mask) ||| at' ((field op lo n).setWidth 8) lo ||| (field op 0 m).setWidth 8)
    (hr : Reads ofCode code P) (hr' : Reads ofCode' code' Q)
    (h : ∀ x z, P x → Q z → S (v ||| at' (code x) lo ||| code' z) (f x z)) :
    Keeps S ⟨mask, v, fun op => (ofCode (field op lo n)).bind fun x => (ofCode' (field op 0 m)).map (f x)⟩ := by
  intro op y hop hy
  obtain rfl : op &&& mask = v := hop
  obtain ⟨x, hx, hy'⟩ := Option.bind_eq_some_iff.1 hy
  obtain ⟨z, hz, rfl⟩ := Option.map_eq_some_iff.1 hy'
  obtain ⟨hcode, hP⟩ := hr _ x hx
  obtain ⟨hcode', hQ⟩ := hr' _ z hz
  have hS := h x z hP hQ
  rwa [← hcode, ← hcode', ← hs op] at hS

/-- The same where the first operand has the lower field. -/
theorem keeps_two_swapped {ofCode : BitVec n → Option β} {code : β → Byte} {P : β → Prop} {ofCode' : BitVec m → Option γ}
    {code' : γ → Byte} {Q : γ → Prop} {f : β → γ → α}
    (hs : ∀ op : Byte, op = (op &&& mask) ||| (field op 0 n).setWidth 8 ||| at' ((field op lo m).setWidth 8) lo)
    (hr : Reads ofCode code P) (hr' : Reads ofCode' code' Q)
    (h : ∀ x z, P x → Q z → S (v ||| code x ||| at' (code' z) lo) (f x z)) :
    Keeps S ⟨mask, v, fun op => (ofCode (field op 0 n)).bind fun x => (ofCode' (field op lo m)).map (f x)⟩ := by
  intro op y hop hy
  obtain rfl : op &&& mask = v := hop
  obtain ⟨x, hx, hy'⟩ := Option.bind_eq_some_iff.1 hy
  obtain ⟨z, hz, rfl⟩ := Option.map_eq_some_iff.1 hy'
  obtain ⟨hcode, hP⟩ := hr _ x hx
  obtain ⟨hcode', hQ⟩ := hr' _ z hz
  have hS := h x z hP hQ
  rwa [← hcode, ← hcode', ← hs op] at hS

/-- A row with a bit number and a register. -/
theorem keeps_number_reg8 {f : Byte → Reg8 → α}
    (h : ∀ op r, S (v ||| at' ((field op 3 3).setWidth 8) 3 ||| r.code) (f op r)) :
    Keeps S ⟨0xC0, v, fun op => (Reg8.ofCode (field op 0 3)).map (f op)⟩ := by
  intro op y hop hy
  obtain rfl : op &&& 0xC0 = v := hop
  obtain ⟨r, hr, rfl⟩ := Option.map_eq_some_iff.1 hy
  have hsplit : ∀ x : Byte, x = (x &&& 0xC0) ||| at' ((field x 3 3).setWidth 8) 3 ||| (field x 0 3).setWidth 8 := by decide
  have hS := h op r
  rwa [← (reads_reg8 _ r hr).1, ← hsplit op] at hS

theorem keeps_reg8_high {f : Reg8 → α} (h : ∀ r, S (v ||| at' r.code 3) (f r)) :
    Keeps S ⟨0xC7, v, fun op => (Reg8.ofCode (field op 3 3)).map f⟩ := keeps_at splits_3_3 reads_reg8 fun r _ => h r

theorem keeps_reg8 {f : Reg8 → α} (h : ∀ r, S (v ||| r.code) (f r)) :
    Keeps S ⟨0xF8, v, fun op => (Reg8.ofCode (field op 0 3)).map f⟩ := keeps_low splits_0_3 reads_reg8 fun r _ => h r

theorem keeps_pair4 {f : Pair4 → α} (h : ∀ p, S (v ||| at' p.code 4) (f p)) :
    Keeps S ⟨0xCF, v, fun op => (Pair4.ofCode (field op 4 2)).map f⟩ := keeps_at splits_4_2 reads_pair4 fun p _ => h p

theorem keeps_addSrc {f : AddSrc → α} (h : ∀ t, S (v ||| at' t.code 4) (f t)) :
    Keeps S ⟨0xCF, v, fun op => (AddSrc.ofCode (field op 4 2)).map f⟩ := keeps_at splits_4_2 reads_addSrc fun t _ => h t

theorem keeps_qq {f : Pair → α} (h : ∀ p, S (v ||| at' p.qq 4) (f p)) :
    Keeps S ⟨0xCF, v, fun op => (Pair.ofQq (field op 4 2)).map f⟩ := keeps_at splits_4_2 reads_qq fun p _ => h p

theorem keeps_pp_high {f : Pair → α} (h : ∀ p, S (v ||| at' p.pp 4) (f p)) :
    Keeps S ⟨0xCF, v, fun op => (Pair.ofPp (field op 4 2)).map f⟩ := keeps_at splits_4_2 reads_pp fun p _ => h p

theorem keeps_pp {f : Pair → α} (h : ∀ p, S (v ||| p.pp) (f p)) :
    Keeps S ⟨0xFC, v, fun op => (Pair.ofPp (field op 0 2)).map f⟩ := keeps_low splits_0_2 reads_pp fun p _ => h p

theorem keeps_cond {f : Cond → α} (h : ∀ cc, S (v ||| at' cc.code 3) (f cc)) :
    Keeps S ⟨0xC7, v, fun op => (Cond.ofCode (field op 3 3)).map f⟩ := keeps_at splits_3_3 reads_cond fun cc _ => h cc

theorem keeps_jrCond {f : Cond → α} (h : ∀ cc, cc.isJr = true → S (v ||| at' cc.code 3) (f cc)) :
    Keeps S ⟨0xE7, v, fun op => (Cond.ofJrCode (field op 3 2)).map f⟩ := keeps_at splits_3_2 reads_jrCond h

theorem keeps_half_high {f : Half → α} (h : ∀ x, S (v ||| at' x.code 3) (f x)) :
    Keeps S ⟨0xF7, v, fun op => (Half.ofCode (field op 3 1)).map f⟩ := keeps_at splits_3_1 reads_half fun x _ => h x

theorem keeps_half {f : Half → α} (h : ∀ x, S (v ||| x.code) (f x)) :
    Keeps S ⟨0xFE, v, fun op => (Half.ofCode (field op 0 1)).map f⟩ := keeps_low splits_0_1 reads_half fun x _ => h x

theorem keeps_wordOp {f : WordOp → α} (h : ∀ x, S (v ||| x.code) (f x)) :
    Keeps S ⟨0xF8, v, fun op => (WordOp.ofCode (field op 0 3)).map f⟩ := keeps_low splits_0_3 reads_wordOp fun x _ => h x

theorem keeps_wordOp_reg {f : WordOp → α} (h : ∀ x, x.isReg = true → S (v ||| x.code) (f x)) :
    Keeps S ⟨0xF8, v, fun op => (WordOp.ofCodeReg (field op 0 3)).map f⟩ := keeps_low splits_0_3 reads_wordOp_reg h

end

/-! ## The pages, row by row -/

theorem baseRows1_keep : ∀ r ∈ baseRows1, Keeps (soundAfter []) r := by
  simp only [baseRows1, List.forall_mem_cons]
  exact ⟨keeps_fixed ⟨rfl, rfl, rfl⟩, keeps_pair4 fun _ _ => ⟨rfl, rfl, rfl⟩, keeps_fixed ⟨rfl, rfl, rfl⟩,
    keeps_fixed ⟨rfl, rfl, rfl⟩, keeps_fixed ⟨rfl, rfl, rfl⟩, keeps_fixed ⟨rfl, rfl, rfl⟩,
    keeps_pair4 fun _ => ⟨rfl, rfl, rfl⟩, keeps_pair4 fun _ => ⟨rfl, rfl, rfl⟩, keeps_reg8_high fun _ => ⟨rfl, rfl, rfl⟩,
    keeps_fixed ⟨rfl, rfl, rfl⟩, keeps_reg8_high fun _ => ⟨rfl, rfl, rfl⟩, keeps_fixed ⟨rfl, rfl, rfl⟩,
    keeps_reg8_high fun _ _ => ⟨rfl, rfl, rfl⟩, keeps_fixed fun _ => ⟨rfl, rfl, rfl⟩, keeps_fixed ⟨rfl, rfl, rfl⟩,
    keeps_fixed ⟨rfl, rfl, rfl⟩, keeps_fixed ⟨rfl, rfl, rfl⟩, keeps_fixed ⟨rfl, rfl, rfl⟩,
    keeps_fixed ⟨rfl, rfl, rfl⟩, keeps_pair4 fun _ => ⟨rfl, rfl, rfl⟩, keeps_fixed fun _ => ⟨rfl, rfl, rfl⟩,
    keeps_fixed fun _ => ⟨rfl, rfl, rfl⟩, keeps_jrCond fun _ h _ => ⟨h, rfl, rfl⟩, keeps_fixed fun _ => ⟨rfl, rfl, rfl⟩,
    keeps_fixed fun _ => ⟨rfl, rfl, rfl⟩, keeps_fixed fun _ => ⟨rfl, rfl, rfl⟩, keeps_fixed fun _ => ⟨rfl, rfl, rfl⟩,
    keeps_fixed ⟨rfl, rfl, rfl⟩, keeps_fixed ⟨rfl, rfl, rfl⟩, keeps_fixed ⟨rfl, rfl, rfl⟩,
    keeps_fixed ⟨rfl, rfl, rfl⟩, keeps_two (by decide) reads_reg8 reads_reg8 fun _ _ _ _ => ⟨rfl, rfl, rfl⟩,
    keeps_reg8_high fun _ => ⟨rfl, rfl, rfl⟩, keeps_reg8 fun _ => ⟨rfl, rfl, rfl⟩, keeps_fixed ⟨rfl, rfl, rfl⟩,
    keeps_reg8 fun _ => ⟨rfl, rfl, rfl⟩, keeps_fixed ⟨rfl, rfl, rfl⟩, keeps_fixed fun _ => ⟨rfl, rfl, rfl⟩,
    keeps_reg8 fun _ => ⟨rfl, rfl, rfl⟩, keeps_fixed ⟨rfl, rfl, rfl⟩, List.forall_mem_nil _⟩

theorem baseRows2_keep : ∀ r ∈ baseRows2, Keeps (soundAfter []) r := by
  simp only [baseRows2, List.forall_mem_cons]
  exact ⟨keeps_fixed fun _ => ⟨rfl, rfl, rfl⟩, keeps_reg8 fun _ => ⟨rfl, rfl, rfl⟩, keeps_fixed ⟨rfl, rfl, rfl⟩,
    keeps_fixed fun _ => ⟨rfl, rfl, rfl⟩, keeps_reg8 fun _ => ⟨rfl, rfl, rfl⟩, keeps_fixed ⟨rfl, rfl, rfl⟩,
    keeps_fixed fun _ => ⟨rfl, rfl, rfl⟩, keeps_reg8 fun _ => ⟨rfl, rfl, rfl⟩, keeps_fixed ⟨rfl, rfl, rfl⟩,
    keeps_fixed fun _ => ⟨rfl, rfl, rfl⟩, keeps_reg8 fun _ => ⟨rfl, rfl, rfl⟩, keeps_fixed ⟨rfl, rfl, rfl⟩,
    keeps_fixed fun _ => ⟨rfl, rfl, rfl⟩, keeps_reg8 fun _ => ⟨rfl, rfl, rfl⟩, keeps_fixed ⟨rfl, rfl, rfl⟩,
    keeps_fixed fun _ => ⟨rfl, rfl, rfl⟩, keeps_reg8 fun _ => ⟨rfl, rfl, rfl⟩, keeps_fixed ⟨rfl, rfl, rfl⟩,
    keeps_fixed fun _ => ⟨rfl, rfl, rfl⟩, keeps_cond fun _ => ⟨rfl, rfl, rfl⟩, keeps_qq fun _ => ⟨rfl, rfl, rfl⟩,
    keeps_fixed ⟨rfl, rfl, rfl⟩, keeps_cond fun _ _ => ⟨rfl, rfl, rfl⟩, keeps_fixed fun _ => ⟨rfl, rfl, rfl⟩,
    keeps_cond fun _ _ => ⟨rfl, rfl, rfl⟩, keeps_qq fun _ => ⟨rfl, rfl, rfl⟩, keeps_fixed ⟨rfl, rfl, rfl⟩,
    keeps_number fun _ => ⟨rfl, rfl, rfl⟩, keeps_fixed ⟨rfl, rfl, rfl⟩, keeps_fixed fun _ => ⟨rfl, rfl, rfl⟩,
    keeps_fixed fun _ => ⟨rfl, rfl, rfl⟩, keeps_fixed fun _ => ⟨rfl, rfl, rfl⟩, keeps_fixed ⟨rfl, rfl, rfl⟩,
    keeps_fixed ⟨rfl, rfl, rfl⟩, keeps_fixed ⟨rfl, rfl, rfl⟩, keeps_fixed ⟨rfl, rfl, rfl⟩,
    keeps_fixed ⟨rfl, rfl, rfl⟩, keeps_fixed ⟨rfl, rfl, rfl⟩, keeps_fixed ⟨rfl, rfl, rfl⟩, List.forall_mem_nil _⟩

theorem cbRows_keep : ∀ r ∈ cbRows, Keeps (soundAfter [0xCB]) r := by
  simp only [cbRows, List.forall_mem_cons]
  exact ⟨keeps_reg8 fun _ => ⟨rfl, rfl, rfl⟩, keeps_fixed ⟨rfl, rfl, rfl⟩, keeps_reg8 fun _ => ⟨rfl, rfl, rfl⟩,
    keeps_fixed ⟨rfl, rfl, rfl⟩, keeps_reg8 fun _ => ⟨rfl, rfl, rfl⟩, keeps_fixed ⟨rfl, rfl, rfl⟩,
    keeps_reg8 fun _ => ⟨rfl, rfl, rfl⟩, keeps_fixed ⟨rfl, rfl, rfl⟩, keeps_reg8 fun _ => ⟨rfl, rfl, rfl⟩,
    keeps_fixed ⟨rfl, rfl, rfl⟩, keeps_reg8 fun _ => ⟨rfl, rfl, rfl⟩, keeps_fixed ⟨rfl, rfl, rfl⟩,
    keeps_reg8 fun _ => ⟨rfl, rfl, rfl⟩, keeps_fixed ⟨rfl, rfl, rfl⟩, keeps_reg8 fun _ => ⟨rfl, rfl, rfl⟩,
    keeps_number_reg8 fun _ _ => ⟨rfl, rfl, rfl⟩, keeps_number fun _ => ⟨rfl, rfl, rfl⟩,
    keeps_number_reg8 fun _ _ => ⟨rfl, rfl, rfl⟩, keeps_number fun _ => ⟨rfl, rfl, rfl⟩,
    keeps_number_reg8 fun _ _ => ⟨rfl, rfl, rfl⟩, keeps_number fun _ => ⟨rfl, rfl, rfl⟩, List.forall_mem_nil _⟩

theorem edRows1_keep : ∀ r ∈ edRows1, Keeps (soundAfter [0xED]) r := by
  simp only [edRows1, List.forall_mem_cons]
  exact ⟨keeps_pp_high fun _ => ⟨rfl, rfl, rfl⟩, keeps_pp fun _ => ⟨rfl, rfl, rfl⟩,
    keeps_fixed fun _ => ⟨rfl, rfl, rfl⟩, keeps_pp fun _ => ⟨rfl, rfl, rfl⟩, keeps_fixed fun _ => ⟨rfl, rfl, rfl⟩,
    keeps_pp fun _ => ⟨rfl, rfl, rfl⟩, keeps_fixed fun _ => ⟨rfl, rfl, rfl⟩, keeps_pp fun _ => ⟨rfl, rfl, rfl⟩,
    keeps_fixed fun _ => ⟨rfl, rfl, rfl⟩, keeps_pp fun _ => ⟨rfl, rfl, rfl⟩, keeps_fixed fun _ => ⟨rfl, rfl, rfl⟩,
    keeps_pp fun _ => ⟨rfl, rfl, rfl⟩, keeps_fixed fun _ => ⟨rfl, rfl, rfl⟩, keeps_pp fun _ => ⟨rfl, rfl, rfl⟩,
    keeps_fixed fun _ => ⟨rfl, rfl, rfl⟩, keeps_pp fun _ => ⟨rfl, rfl, rfl⟩, keeps_fixed fun _ => ⟨rfl, rfl, rfl⟩,
    keeps_reg8_high fun _ _ => ⟨rfl, rfl, rfl⟩, keeps_fixed fun _ => ⟨rfl, rfl, rfl⟩,
    keeps_reg8_high fun _ _ => ⟨rfl, rfl, rfl⟩, keeps_fixed ⟨rfl, rfl, rfl⟩, keeps_fixed ⟨rfl, rfl, rfl⟩,
    keeps_fixed ⟨rfl, rfl, rfl⟩, keeps_fixed ⟨rfl, rfl, rfl⟩, keeps_fixed ⟨rfl, rfl, rfl⟩,
    keeps_fixed ⟨rfl, rfl, rfl⟩, keeps_fixed ⟨rfl, rfl, rfl⟩, keeps_reg8_high fun _ => ⟨rfl, rfl, rfl⟩,
    keeps_fixed ⟨rfl, rfl, rfl⟩, keeps_fixed fun _ => ⟨rfl, rfl, rfl⟩, keeps_fixed ⟨rfl, rfl, rfl⟩,
    keeps_fixed ⟨rfl, rfl, rfl⟩, keeps_pp_high fun _ _ => ⟨rfl, rfl, rfl⟩, keeps_reg8_high fun _ => ⟨rfl, rfl, rfl⟩,
    keeps_fixed ⟨rfl, rfl, rfl⟩, keeps_pp_high fun _ => ⟨rfl, rfl, rfl⟩, keeps_reg8_high fun _ => ⟨rfl, rfl, rfl⟩,
    keeps_reg8_high fun _ => ⟨rfl, rfl, rfl⟩, keeps_fixed fun _ => ⟨rfl, rfl, rfl⟩, keeps_pair4 fun _ => ⟨rfl, rfl, rfl⟩,
    List.forall_mem_nil _⟩

theorem edRows2_keep : ∀ r ∈ edRows2, Keeps (soundAfter [0xED]) r := by
  simp only [edRows2, List.forall_mem_cons]
  exact ⟨keeps_pair4 fun _ => ⟨rfl, rfl, rfl⟩, keeps_pair4 fun _ _ => ⟨rfl, rfl, rfl⟩,
    keeps_pair4 fun _ _ => ⟨rfl, rfl, rfl⟩, keeps_fixed ⟨rfl, rfl, rfl⟩, keeps_fixed ⟨rfl, rfl, rfl⟩,
    keeps_fixed ⟨rfl, rfl, rfl⟩, keeps_fixed ⟨rfl, rfl, rfl⟩, keeps_fixed ⟨rfl, rfl, rfl⟩,
    keeps_fixed ⟨rfl, rfl, rfl⟩, keeps_fixed ⟨rfl, rfl, rfl⟩, keeps_fixed ⟨rfl, rfl, rfl⟩,
    keeps_fixed ⟨rfl, rfl, rfl⟩, keeps_fixed ⟨rfl, rfl, rfl⟩, keeps_fixed ⟨rfl, rfl, rfl⟩,
    keeps_fixed ⟨rfl, rfl, rfl⟩, keeps_pair4 fun _ => ⟨rfl, rfl, rfl⟩, keeps_fixed ⟨rfl, rfl, rfl⟩,
    keeps_fixed ⟨rfl, rfl, rfl⟩, keeps_fixed ⟨rfl, rfl, rfl⟩, keeps_fixed ⟨rfl, rfl, rfl⟩,
    keeps_fixed fun _ => ⟨rfl, rfl, rfl⟩, keeps_fixed ⟨rfl, rfl, rfl⟩, keeps_fixed fun _ => ⟨rfl, rfl, rfl⟩,
    keeps_fixed fun _ => ⟨rfl, rfl, rfl⟩, keeps_fixed ⟨rfl, rfl, rfl⟩, keeps_fixed ⟨rfl, rfl, rfl⟩,
    keeps_fixed ⟨rfl, rfl, rfl⟩, keeps_fixed ⟨rfl, rfl, rfl⟩, keeps_fixed ⟨rfl, rfl, rfl⟩,
    keeps_fixed ⟨rfl, rfl, rfl⟩, keeps_fixed ⟨rfl, rfl, rfl⟩, keeps_fixed ⟨rfl, rfl, rfl⟩,
    keeps_fixed ⟨rfl, rfl, rfl⟩, keeps_fixed ⟨rfl, rfl, rfl⟩, keeps_fixed ⟨rfl, rfl, rfl⟩,
    keeps_fixed ⟨rfl, rfl, rfl⟩, keeps_fixed ⟨rfl, rfl, rfl⟩, keeps_fixed ⟨rfl, rfl, rfl⟩,
    keeps_fixed ⟨rfl, rfl, rfl⟩, keeps_fixed ⟨rfl, rfl, rfl⟩, List.forall_mem_nil _⟩

theorem edRows3_keep : ∀ r ∈ edRows3, Keeps (soundAfter [0xED]) r := by
  simp only [edRows3, List.forall_mem_cons]
  exact ⟨keeps_fixed ⟨rfl, rfl, rfl⟩, keeps_fixed ⟨rfl, rfl, rfl⟩, keeps_fixed ⟨rfl, rfl, rfl⟩,
    keeps_fixed ⟨rfl, rfl, rfl⟩, keeps_fixed ⟨rfl, rfl, rfl⟩, keeps_fixed ⟨rfl, rfl, rfl⟩,
    keeps_fixed ⟨rfl, rfl, rfl⟩, keeps_fixed ⟨rfl, rfl, rfl⟩, keeps_fixed fun _ => ⟨rfl, rfl, rfl⟩,
    keeps_fixed fun _ => ⟨rfl, rfl, rfl⟩, keeps_cond fun _ _ => ⟨rfl, rfl, rfl⟩, keeps_fixed fun _ => ⟨rfl, rfl, rfl⟩,
    keeps_fixed ⟨rfl, rfl, rfl⟩, keeps_fixed ⟨rfl, rfl, rfl⟩, keeps_fixed ⟨rfl, rfl, rfl⟩,
    keeps_fixed fun _ => ⟨rfl, rfl, rfl⟩, keeps_fixed fun _ => ⟨rfl, rfl, rfl⟩, keeps_fixed fun _ => ⟨rfl, rfl, rfl⟩,
    keeps_fixed ⟨rfl, rfl, rfl⟩, keeps_fixed ⟨rfl, rfl, rfl⟩, keeps_fixed ⟨rfl, rfl, rfl⟩,
    keeps_fixed ⟨rfl, rfl, rfl⟩, keeps_fixed ⟨rfl, rfl, rfl⟩, keeps_fixed ⟨rfl, rfl, rfl⟩,
    keeps_fixed ⟨rfl, rfl, rfl⟩, keeps_fixed ⟨rfl, rfl, rfl⟩, keeps_fixed ⟨rfl, rfl, rfl⟩,
    keeps_fixed ⟨rfl, rfl, rfl⟩, keeps_fixed ⟨rfl, rfl, rfl⟩, keeps_fixed ⟨rfl, rfl, rfl⟩,
    keeps_fixed ⟨rfl, rfl, rfl⟩, keeps_fixed ⟨rfl, rfl, rfl⟩, keeps_fixed ⟨rfl, rfl, rfl⟩, List.forall_mem_nil _⟩

theorem edcbRows_keep : ∀ r ∈ edcbRows, Keeps (soundAfter [0xED, 0xCB]) r := by
  simp only [edcbRows, List.forall_mem_cons]
  exact ⟨keeps_wordOp fun _ => ⟨rfl, rfl, rfl⟩, keeps_wordOp fun _ => ⟨rfl, rfl, rfl⟩,
    keeps_wordOp fun _ => ⟨rfl, rfl, rfl⟩, keeps_wordOp fun _ => ⟨rfl, rfl, rfl⟩, keeps_wordOp fun _ => ⟨rfl, rfl, rfl⟩,
    keeps_wordOp fun _ => ⟨rfl, rfl, rfl⟩, keeps_wordOp fun _ => ⟨rfl, rfl, rfl⟩, keeps_fixed ⟨rfl, rfl, rfl⟩,
    keeps_fixed ⟨rfl, rfl, rfl⟩, keeps_fixed ⟨rfl, rfl, rfl⟩, keeps_fixed ⟨rfl, rfl, rfl⟩,
    keeps_fixed ⟨rfl, rfl, rfl⟩, keeps_wordOp_reg fun _ h => ⟨h, rfl, rfl⟩, keeps_fixed fun _ => ⟨rfl, rfl, rfl⟩,
    keeps_wordOp_reg fun _ h => ⟨h, rfl, rfl⟩, keeps_fixed fun _ => ⟨rfl, rfl, rfl⟩,
    keeps_wordOp_reg fun _ h => ⟨h, rfl, rfl⟩, keeps_fixed fun _ => ⟨rfl, rfl, rfl⟩, List.forall_mem_nil _⟩

theorem xyRows1_keep (y : Idx) : ∀ r ∈ xyRows1 y, Keeps (soundAfter [y.byte]) r := by
  simp only [xyRows1, List.forall_mem_cons]
  exact ⟨keeps_addSrc fun _ => ⟨rfl, rfl, rfl⟩, keeps_pp_high fun _ => ⟨rfl, rfl, rfl⟩,
    keeps_pp_high fun _ => ⟨rfl, rfl, rfl⟩, keeps_pp_high fun _ => ⟨rfl, rfl, rfl⟩,
    keeps_pp_high fun _ => ⟨rfl, rfl, rfl⟩, keeps_fixed fun _ => ⟨rfl, rfl, rfl⟩, keeps_fixed fun _ => ⟨rfl, rfl, rfl⟩,
    keeps_fixed fun _ => ⟨rfl, rfl, rfl⟩, keeps_fixed ⟨rfl, rfl, rfl⟩, keeps_fixed ⟨rfl, rfl, rfl⟩,
    keeps_half_high fun _ => ⟨rfl, rfl, rfl⟩, keeps_half_high fun _ => ⟨rfl, rfl, rfl⟩,
    keeps_half_high fun _ _ => ⟨rfl, rfl, rfl⟩, keeps_fixed fun _ => ⟨rfl, rfl, rfl⟩,
    keeps_fixed fun _ => ⟨rfl, rfl, rfl⟩, keeps_fixed fun _ _ => ⟨rfl, rfl, rfl⟩, keeps_fixed ⟨rfl, rfl, rfl⟩,
    keeps_two (by decide) reads_half reads_halfSrc fun _ _ _ h => ⟨h, rfl, rfl⟩,
    keeps_two (by decide) reads_reg8_besideHalf reads_half fun _ _ h _ => ⟨h, rfl, rfl⟩,
    keeps_reg8_high fun _ _ => ⟨rfl, rfl, rfl⟩, keeps_reg8 fun _ _ => ⟨rfl, rfl, rfl⟩,
    keeps_half fun _ => ⟨rfl, rfl, rfl⟩, keeps_fixed fun _ => ⟨rfl, rfl, rfl⟩, keeps_half fun _ => ⟨rfl, rfl, rfl⟩,
    keeps_fixed fun _ => ⟨rfl, rfl, rfl⟩, keeps_half fun _ => ⟨rfl, rfl, rfl⟩, keeps_fixed fun _ => ⟨rfl, rfl, rfl⟩,
    keeps_half fun _ => ⟨rfl, rfl, rfl⟩, keeps_fixed fun _ => ⟨rfl, rfl, rfl⟩, keeps_half fun _ => ⟨rfl, rfl, rfl⟩,
    keeps_fixed fun _ => ⟨rfl, rfl, rfl⟩, keeps_half fun _ => ⟨rfl, rfl, rfl⟩, keeps_fixed fun _ => ⟨rfl, rfl, rfl⟩,
    keeps_half fun _ => ⟨rfl, rfl, rfl⟩, keeps_fixed fun _ => ⟨rfl, rfl, rfl⟩, keeps_half fun _ => ⟨rfl, rfl, rfl⟩,
    keeps_fixed fun _ => ⟨rfl, rfl, rfl⟩, keeps_fixed ⟨rfl, rfl, rfl⟩, keeps_fixed fun _ => ⟨rfl, rfl, rfl⟩,
    keeps_fixed ⟨rfl, rfl, rfl⟩, List.forall_mem_nil _⟩

theorem xyRows2_keep (y : Idx) : ∀ r ∈ xyRows2 y, Keeps (soundAfter [y.byte]) r := by
  simp only [xyRows2, List.forall_mem_cons]
  exact ⟨keeps_fixed fun _ => ⟨rfl, rfl, rfl⟩, keeps_fixed ⟨rfl, rfl, rfl⟩, keeps_fixed fun _ => ⟨rfl, rfl, rfl⟩,
    keeps_fixed ⟨rfl, rfl, rfl⟩, keeps_fixed fun _ => ⟨rfl, rfl, rfl⟩, keeps_fixed ⟨rfl, rfl, rfl⟩,
    keeps_fixed fun _ => ⟨rfl, rfl, rfl⟩, keeps_fixed ⟨rfl, rfl, rfl⟩, keeps_fixed fun _ => ⟨rfl, rfl, rfl⟩,
    keeps_fixed ⟨rfl, rfl, rfl⟩, keeps_fixed fun _ => ⟨rfl, rfl, rfl⟩, keeps_fixed ⟨rfl, rfl, rfl⟩,
    keeps_fixed fun _ => ⟨rfl, rfl, rfl⟩, keeps_fixed ⟨rfl, rfl, rfl⟩, keeps_fixed ⟨rfl, rfl, rfl⟩,
    keeps_fixed ⟨rfl, rfl, rfl⟩, keeps_fixed ⟨rfl, rfl, rfl⟩, keeps_fixed ⟨rfl, rfl, rfl⟩, List.forall_mem_nil _⟩

theorem ddRows_keep : ∀ r ∈ ddRows, Keeps (soundAfter [Idx.ix.byte]) r := by
  simp only [ddRows, List.forall_mem_cons]
  exact ⟨keeps_two (by decide) reads_pp reads_pp fun _ _ _ _ => ⟨rfl, rfl, rfl⟩, keeps_pp_high fun _ => ⟨rfl, rfl, rfl⟩,
    keeps_fixed fun _ => ⟨rfl, rfl, rfl⟩, keeps_fixed fun _ => ⟨rfl, rfl, rfl⟩, keeps_jrCond fun _ h _ => ⟨h, rfl, rfl⟩,
    keeps_fixed ⟨rfl, rfl, rfl⟩, keeps_fixed ⟨rfl, rfl, rfl⟩, keeps_fixed ⟨rfl, rfl, rfl⟩,
    keeps_fixed ⟨rfl, rfl, rfl⟩, keeps_fixed ⟨rfl, rfl, rfl⟩, keeps_fixed ⟨rfl, rfl, rfl⟩,
    keeps_fixed ⟨rfl, rfl, rfl⟩, keeps_fixed ⟨rfl, rfl, rfl⟩, keeps_fixed ⟨rfl, rfl, rfl⟩,
    keeps_fixed ⟨rfl, rfl, rfl⟩, keeps_fixed ⟨rfl, rfl, rfl⟩, keeps_fixed ⟨rfl, rfl, rfl⟩,
    keeps_fixed ⟨rfl, rfl, rfl⟩, keeps_fixed ⟨rfl, rfl, rfl⟩, keeps_cond fun _ _ => ⟨rfl, rfl, rfl⟩,
    keeps_fixed fun _ => ⟨rfl, rfl, rfl⟩, keeps_fixed ⟨rfl, rfl, rfl⟩, keeps_fixed fun _ => ⟨rfl, rfl, rfl⟩,
    keeps_fixed ⟨rfl, rfl, rfl⟩, keeps_fixed ⟨rfl, rfl, rfl⟩, keeps_fixed ⟨rfl, rfl, rfl⟩,
    keeps_fixed fun _ => ⟨rfl, rfl, rfl⟩, keeps_fixed ⟨rfl, rfl, rfl⟩, keeps_fixed fun _ => ⟨rfl, rfl, rfl⟩,
    keeps_fixed fun _ => ⟨rfl, rfl, rfl⟩, keeps_fixed ⟨rfl, rfl, rfl⟩, keeps_fixed ⟨rfl, rfl, rfl⟩,
    List.forall_mem_nil _⟩

theorem fdRows_keep : ∀ r ∈ fdRows, Keeps (soundAfter [Idx.iy.byte]) r := by
  simp only [fdRows, List.forall_mem_cons]
  exact ⟨keeps_two_swapped (by decide) reads_pp reads_pp fun _ _ _ _ => ⟨rfl, rfl, rfl⟩,
    keeps_pp_high fun _ => ⟨rfl, rfl, rfl⟩, keeps_fixed fun _ => ⟨rfl, rfl, rfl⟩, keeps_fixed fun _ => ⟨rfl, rfl, rfl⟩,
    keeps_jrCond fun _ h _ => ⟨h, rfl, rfl⟩, keeps_fixed ⟨rfl, rfl, rfl⟩, keeps_fixed fun _ => ⟨rfl, rfl, rfl⟩,
    keeps_fixed ⟨rfl, rfl, rfl⟩, keeps_fixed ⟨rfl, rfl, rfl⟩, keeps_fixed ⟨rfl, rfl, rfl⟩,
    keeps_fixed ⟨rfl, rfl, rfl⟩, keeps_cond fun _ _ => ⟨rfl, rfl, rfl⟩, keeps_fixed fun _ => ⟨rfl, rfl, rfl⟩,
    keeps_fixed ⟨rfl, rfl, rfl⟩, keeps_fixed ⟨rfl, rfl, rfl⟩, keeps_fixed fun _ => ⟨rfl, rfl, rfl⟩,
    keeps_fixed ⟨rfl, rfl, rfl⟩, keeps_fixed fun _ => ⟨rfl, rfl, rfl⟩, keeps_fixed fun _ => ⟨rfl, rfl, rfl⟩,
    keeps_fixed ⟨rfl, rfl, rfl⟩, keeps_fixed fun _ => ⟨rfl, rfl, rfl⟩, List.forall_mem_nil _⟩

theorem xycbRows_keep (y : Idx) : ∀ r ∈ xycbRows y, Keeps (soundAround y) r := by
  simp only [xycbRows, List.forall_mem_cons]
  exact ⟨keeps_fixed fun _ => ⟨rfl, rfl, rfl⟩, keeps_fixed fun _ => ⟨rfl, rfl, rfl⟩,
    keeps_fixed fun _ => ⟨rfl, rfl, rfl⟩, keeps_fixed fun _ => ⟨rfl, rfl, rfl⟩, keeps_fixed fun _ => ⟨rfl, rfl, rfl⟩,
    keeps_fixed fun _ => ⟨rfl, rfl, rfl⟩, keeps_fixed fun _ => ⟨rfl, rfl, rfl⟩, keeps_number fun _ _ => ⟨rfl, rfl, rfl⟩,
    keeps_number fun _ _ => ⟨rfl, rfl, rfl⟩, keeps_number fun _ _ => ⟨rfl, rfl, rfl⟩,
    keeps_fixed fun _ => ⟨rfl, rfl, rfl⟩, keeps_fixed fun _ => ⟨rfl, rfl, rfl⟩, keeps_fixed fun _ => ⟨rfl, rfl, rfl⟩,
    keeps_fixed fun _ => ⟨rfl, rfl, rfl⟩, keeps_fixed fun _ => ⟨rfl, rfl, rfl⟩, keeps_fixed fun _ => ⟨rfl, rfl, rfl⟩,
    keeps_fixed fun _ => ⟨rfl, rfl, rfl⟩, keeps_fixed fun _ => ⟨rfl, rfl, rfl⟩, keeps_pp_high fun _ _ => ⟨rfl, rfl, rfl⟩,
    keeps_fixed fun _ => ⟨rfl, rfl, rfl⟩, keeps_fixed fun _ => ⟨rfl, rfl, rfl⟩, keeps_pp_high fun _ _ => ⟨rfl, rfl, rfl⟩,
    keeps_fixed fun _ => ⟨rfl, rfl, rfl⟩, keeps_fixed fun _ => ⟨rfl, rfl, rfl⟩, keeps_fixed fun _ => ⟨rfl, rfl, rfl⟩,
    keeps_fixed fun _ => ⟨rfl, rfl, rfl⟩, List.forall_mem_nil _⟩

theorem ddcbRows_keep : ∀ r ∈ ddcbRows, Keeps (soundAround .ix) r := by
  simp only [ddcbRows, List.forall_mem_cons]
  exact ⟨keeps_pp_high fun _ _ => ⟨rfl, rfl, rfl⟩, keeps_pp_high fun _ _ => ⟨rfl, rfl, rfl⟩, List.forall_mem_nil _⟩

/-! ## The pages put together -/

theorem keeps_append {α : Type} {S : Byte → α → Prop} {rows rows' : List (Row α)} (h : ∀ r ∈ rows, Keeps S r)
    (h' : ∀ r ∈ rows', Keeps S r) : ∀ r ∈ rows ++ rows', Keeps S r :=
  List.forall_mem_append.2 ⟨h, h'⟩

theorem baseRows_keep : ∀ r ∈ baseRows, Keeps (soundAfter []) r := keeps_append baseRows1_keep baseRows2_keep

theorem edRows_keep : ∀ r ∈ edRows, Keeps (soundAfter [0xED]) r :=
  keeps_append (keeps_append edRows1_keep edRows2_keep) edRows3_keep

theorem xyRows_keep (y : Idx) : ∀ r ∈ xyRows y, Keeps (soundAfter [y.byte]) r :=
  keeps_append (xyRows1_keep y) (xyRows2_keep y)

theorem idxRows_keep (y : Idx) : ∀ r ∈ idxRows y, Keeps (soundAfter [y.byte]) r := by
  cases y with
  | ix => exact keeps_append ddRows_keep (xyRows_keep .ix)
  | iy => exact keeps_append fdRows_keep (xyRows_keep .iy)

theorem idxCbRows_keep (y : Idx) : ∀ r ∈ idxCbRows y, Keeps (soundAround y) r := by
  cases y with
  | ix => exact keeps_append ddcbRows_keep (xycbRows_keep .ix)
  | iy => exact xycbRows_keep .iy

/-! ## The immediate fields read and written (R105, R144, R145) -/

theorem takeByte_eq_some {bs rest : List Byte} {v : Byte} (h : takeByte bs = some (v, rest)) : [v] ++ rest = bs := by
  cases bs with
  | nil => cases h
  | cons x xs => cases h; rfl

theorem take16_eq_some {bs rest : List Byte} {v : BitVec 16} (h : take16 bs = some (v, rest)) : bytes16 v ++ rest = bs := by
  match bs, h with
  | x :: y :: r, h =>
    cases h
    have hx : (y ++ x).extractLsb' 0 8 = x := BitVec.extractLsb'_append_eq_right
    have hy : (y ++ x).extractLsb' 8 8 = y := BitVec.extractLsb'_append_eq_left
    simp [bytes16, hx, hy]

theorem take24_eq_some {bs rest : List Byte} {v : BitVec 24} (h : take24 bs = some (v, rest)) : bytes24 v ++ rest = bs := by
  match bs, h with
  | x :: y :: z :: r, h =>
    cases h
    have hx : (z ++ y ++ x).extractLsb' 0 8 = x := BitVec.extractLsb'_append_eq_right
    have hy : (z ++ y ++ x).extractLsb' 8 8 = y := by
      rw [BitVec.extractLsb'_append_eq_of_le (by decide)]
      exact BitVec.extractLsb'_append_eq_right
    have hz : (z ++ y ++ x).extractLsb' 16 8 = z := by
      rw [BitVec.extractLsb'_append_eq_of_le (by decide)]
      exact BitVec.extractLsb'_append_eq_left
    simp [bytes24, hx, hy, hz]

theorem take32_eq_some {bs rest : List Byte} {v : BitVec 32} (h : take32 bs = some (v, rest)) : bytes32 v ++ rest = bs := by
  match bs, h with
  | x :: y :: z :: w :: r, h =>
    cases h
    have hx : (w ++ z ++ y ++ x).extractLsb' 0 8 = x := BitVec.extractLsb'_append_eq_right
    have hy : (w ++ z ++ y ++ x).extractLsb' 8 8 = y := by
      rw [BitVec.extractLsb'_append_eq_of_le (by decide)]
      exact BitVec.extractLsb'_append_eq_right
    have hz : (w ++ z ++ y ++ x).extractLsb' 16 8 = z := by
      rw [BitVec.extractLsb'_append_eq_of_le (by decide), BitVec.extractLsb'_append_eq_of_le (by decide)]
      exact BitVec.extractLsb'_append_eq_right
    have hw : (w ++ z ++ y ++ x).extractLsb' 24 8 = w := by
      rw [BitVec.extractLsb'_append_eq_of_le (by decide), BitVec.extractLsb'_append_eq_of_le (by decide)]
      exact BitVec.extractLsb'_append_eq_left
    simp [bytes32, hx, hy, hz, hw]

theorem take32_bytes (v : BitVec 32) (rest : List Byte) : take32 (bytes32 v ++ rest) = some (v, rest) := by
  have hv : v.extractLsb' 24 8 ++ v.extractLsb' 16 8 ++ v.extractLsb' 8 8 ++ v.extractLsb' 0 8 = v := by
    rw [BitVec.extractLsb'_append_extractLsb'_eq_extractLsb' (show 24 = 16 + 8 from rfl),
      BitVec.extractLsb'_append_extractLsb'_eq_extractLsb' (show 16 = 8 + 8 from rfl),
      BitVec.extractLsb'_append_extractLsb'_eq_extractLsb' (show 8 = 0 + 8 from rfl)]
    exact BitVec.extractLsb'_eq_self
  exact congrArg (fun w => some (w, rest)) hv

/-- R469: a displacement read has the length the pending directive gives it, and is written with the bytes read. -/
theorem takeDisp_eq_some {e : Ext} {bs rest : List Byte} {d : Disp} (h : takeDisp e bs = some (d, rest)) :
    d.ext = e ∧ d.bytes ++ rest = bs := by
  cases e <;> obtain ⟨p, hp, heq⟩ := Option.map_eq_some_iff.1 h <;> cases heq
  · exact ⟨rfl, takeByte_eq_some hp⟩
  · exact ⟨rfl, take16_eq_some hp⟩
  · exact ⟨rfl, take24_eq_some hp⟩

theorem takeDisp_bytes (d : Disp) (rest : List Byte) : takeDisp d.ext (d.bytes ++ rest) = some (d, rest) := by
  cases d with
  | d8 v => rfl
  | d16 v => simp [Disp.ext, Disp.bytes, takeDisp, take16_bytes]
  | d24 v => simp [Disp.ext, Disp.bytes, takeDisp, take24_bytes]

/-- R469: the same for an address or datum field. -/
theorem takeImm_eq_some {e : Ext} {bs rest : List Byte} {v : Imm} (h : takeImm e bs = some (v, rest)) :
    v.ext = e ∧ v.bytes ++ rest = bs := by
  cases e <;> obtain ⟨p, hp, heq⟩ := Option.map_eq_some_iff.1 h <;> cases heq
  · exact ⟨rfl, take16_eq_some hp⟩
  · exact ⟨rfl, take24_eq_some hp⟩
  · exact ⟨rfl, take32_eq_some hp⟩

theorem takeImm_bytes (v : Imm) (rest : List Byte) : takeImm v.ext (v.bytes ++ rest) = some (v, rest) := by
  cases v with
  | i16 v => simp [Imm.ext, Imm.bytes, takeImm, take16_bytes]
  | i24 v => simp [Imm.ext, Imm.bytes, takeImm, take24_bytes]
  | i32 v => simp [Imm.ext, Imm.bytes, takeImm, take32_bytes]

/-! ## Decoding is sound, page by page (R166) -/

/-- What `EncodeUndoesDecode` says of one answer of the decoder. -/
def Encodes (e : Ext) (i : Instr) (rest bs : List Byte) : Prop := i.wf = true ∧ i.fits e = true ∧ encode i ++ rest = bs

theorem Says.encodes {bs field rest : List Byte} {i : Instr} {e : Ext} (h : Says none (bs ++ field) i) :
    Encodes e i rest (bs ++ (field ++ rest)) := by
  obtain ⟨hwf, hext, hbytes⟩ := h
  refine ⟨hwf, ?_, ?_⟩
  · rw [Instr.fits, hext]
  · rw [hbytes, List.append_assoc]

theorem Says.encodes_ext {bs field rest : List Byte} {i : Instr} {e : Ext} (h : Says (some e) (bs ++ field) i) :
    Encodes e i rest (bs ++ (field ++ rest)) := by
  obtain ⟨hwf, hext, hbytes⟩ := h
  refine ⟨hwf, ?_, ?_⟩
  · rw [Instr.fits, hext]
    exact beq_self_eq_true e
  · rw [hbytes, List.append_assoc]

/-- R166 step 6: what a sound row makes of the bytes after the opcode byte. -/
theorem Rest.Sound.encodes {pre bs rest : List Byte} {t : Rest} {e : Ext} {i : Instr} (ht : Rest.Sound pre t)
    (h : t.fill e bs = some (i, rest)) : Encodes e i rest (pre ++ bs) := by
  cases t with
  | done j =>
    cases h
    exact Says.encodes (field := []) ((List.append_nil pre).symm ▸ ht)
  | n8 f =>
    obtain ⟨⟨n, r⟩, hn, heq⟩ := Option.map_eq_some_iff.1 h
    cases heq
    exact takeByte_eq_some hn ▸ (ht n).encodes
  | imm f =>
    obtain ⟨⟨v, r⟩, hv, heq⟩ := Option.map_eq_some_iff.1 h
    cases heq
    obtain ⟨rfl, rfl⟩ := takeImm_eq_some hv
    exact (ht v).encodes_ext
  | d f =>
    obtain ⟨⟨d, r⟩, hd, heq⟩ := Option.map_eq_some_iff.1 h
    cases heq
    obtain ⟨rfl, rfl⟩ := takeDisp_eq_some hd
    exact (ht d).encodes_ext
  | dn8 f =>
    obtain ⟨⟨d, r⟩, hd, h'⟩ := Option.bind_eq_some_iff.1 h
    obtain ⟨⟨n, r'⟩, hn, heq⟩ := Option.map_eq_some_iff.1 h'
    cases heq
    obtain ⟨rfl, rfl⟩ := takeDisp_eq_some hd
    obtain rfl : [n] ++ r' = r := takeByte_eq_some hn
    rw [← List.append_assoc pre]
    exact (ht d n).encodes_ext
  | e8 f =>
    obtain ⟨⟨v, r⟩, hv, heq⟩ := Option.map_eq_some_iff.1 h
    cases heq
    exact takeByte_eq_some hv ▸ (ht v).encodes
  | e16 f =>
    obtain ⟨⟨v, r⟩, hv, heq⟩ := Option.map_eq_some_iff.1 h
    cases heq
    exact take16_eq_some hv ▸ (ht v).encodes
  | e24 f =>
    obtain ⟨⟨v, r⟩, hv, heq⟩ := Option.map_eq_some_iff.1 h
    cases heq
    exact take24_eq_some hv ▸ (ht v).encodes

section
variable {e : Ext} {bs rest : List Byte} {i : Instr}

theorem decodeIn_sound {page : Page} {rows : List (Row Rest)} {pre : List Byte} {op : Byte}
    (hrows : ∀ r ∈ rows, Keeps (soundAfter pre) r) (h : decodeIn page rows e op bs = .ok (i, rest)) :
    Encodes e i rest (pre ++ op :: bs) := by
  unfold decodeIn at h
  split at h
  · cases h
  · rename_i t hlookup
    split at h
    · cases h
    · rename_i p hfill
      cases h
      have hsound : Rest.Sound (pre ++ [op]) t := lookup_keeps hrows hlookup
      rw [List.append_cons]
      exact hsound.encodes hfill

theorem decodeIdxCb_sound {y : Idx} (h : decodeIdxCb y e bs = .ok (i, rest)) :
    Encodes e i rest (y.byte :: 0xCB :: bs) := by
  unfold decodeIdxCb at h
  split at h
  · cases h
  · rename_i d r hdisp
    split at h
    · cases h
    · rename_i op r'
      split at h
      · cases h
      · rename_i f hlookup
        cases h
        obtain ⟨rfl, rfl⟩ := takeDisp_eq_some hdisp
        have hsound : soundAround y op f := lookup_keeps (idxCbRows_keep y) hlookup
        have henc := (hsound d).encodes_ext (rest := rest)
        rw [List.append_assoc] at henc
        exact henc

theorem decodeIdx_sound {y : Idx} (h : decodeIdx y e bs = .ok (i, rest)) : Encodes e i rest (y.byte :: bs) := by
  cases bs with
  | nil => cases h
  | cons b r =>
    rw [decodeIdx] at h
    split at h
    · rename_i hb
      exact hb ▸ decodeIdxCb_sound h
    · exact decodeIn_sound (idxRows_keep y) h

theorem decodeEd_sound (h : decodeEd e bs = .ok (i, rest)) : Encodes e i rest (0xED :: bs) := by
  cases bs with
  | nil => cases h
  | cons b r =>
    unfold decodeEd at h
    dsimp only at h
    split at h
    · rename_i hb
      cases r with
      | nil => cases h
      | cons op r' => exact hb ▸ decodeIn_sound edcbRows_keep h
    · exact decodeIn_sound edRows_keep h

theorem decode_sound (h : decode e bs = .ok (i, rest)) : Encodes e i rest bs := by
  cases bs with
  | nil => cases h
  | cons b r =>
    unfold decode at h
    dsimp only at h
    split at h
    · rename_i hb
      cases r with
      | nil => cases h
      | cons op r' => exact hb ▸ decodeIn_sound cbRows_keep h
    · split at h
      · rename_i hb
        exact hb ▸ decodeEd_sound h
      · split at h
        · rename_i hb
          exact hb ▸ decodeIdx_sound (y := .ix) h
        · split at h
          · rename_i hb
            exact hb ▸ decodeIdx_sound (y := .iy) h
          · exact decodeIn_sound baseRows_keep h

end

/-- Settles O4: each row of each page answers only instructions that are encoded by the opcode byte it matched and the
fields read after it. -/
theorem encodeUndoesDecode : Obligations.EncodeUndoesDecode := fun _ _ _ _ h => decode_sound h

end Sys2Proof.Proofs

namespace Sys2Proof.Proofs

open Sys2Proof Sys2Proof.Machine

/-! ## Fields written and read back (R145, R166 step 6) -/

section
variable {e : Ext} {rest : List Byte}

/-- The length of an extendable field is the one the pending directive gives. -/
theorem ext_eq_of_fits {i : Instr} {x : Ext} (hfits : i.fits e = true) (hext : i.ext? = some x) : x = e := by
  rw [Instr.fits, hext] at hfits
  exact eq_of_beq hfits

theorem fill_imm {f : Imm → Instr} {v : Imm} (hfits : (f v).fits e = true) (hext : (f v).ext? = some v.ext) :
    (Rest.imm f).fill e (v.bytes ++ rest) = some (f v, rest) := by
  obtain rfl := ext_eq_of_fits hfits hext
  rw [Rest.fill, takeImm_bytes, Option.map_some]

theorem fill_d {f : Disp → Instr} {d : Disp} (hfits : (f d).fits e = true) (hext : (f d).ext? = some d.ext) :
    (Rest.d f).fill e (d.bytes ++ rest) = some (f d, rest) := by
  obtain rfl := ext_eq_of_fits hfits hext
  rw [Rest.fill, takeDisp_bytes, Option.map_some]

theorem fill_dn8 {f : Disp → Byte → Instr} {d : Disp} {n : Byte} (hfits : (f d n).fits e = true)
    (hext : (f d n).ext? = some d.ext) : (Rest.dn8 f).fill e (d.bytes ++ [n] ++ rest) = some (f d n, rest) := by
  obtain rfl := ext_eq_of_fits hfits hext
  rw [Rest.fill, List.append_assoc, takeDisp_bytes]
  rfl

/-! ## From a row to the decoder (R166) -/

theorem lookup_append_of_none {α : Type} {rows rows' : List (Row α)} {op : Byte} (h : lookup rows op = none) :
    lookup (rows ++ rows') op = lookup rows' op := by
  induction rows with
  | nil => rfl
  | cons r rs ih =>
    rw [lookup] at h
    rw [List.cons_append, lookup]
    split at h
    · rename_i hmatch
      rw [if_pos hmatch]
      split at h
      · cases h
      · exact ih h
    · rename_i hmatch
      rw [if_neg hmatch]
      exact ih h

/-- An opcode byte that no row of the base page has, unlike the one it is compared with. -/
theorem ne_of_lookup {α : Type} {rows : List (Row α)} {op p : Byte} {t : α} (h : lookup rows op = some t)
    (hp : lookup rows p = none) : op ≠ p := by
  rintro rfl
  rw [h] at hp
  cases hp

variable {op : Byte} {bs : List Byte} {t : Rest} {i : Instr}

theorem decode_base (h : lookup baseRows op = some t) (hfill : t.fill e bs = some (i, rest)) :
    decode e (op :: bs) = .ok (i, rest) := by
  have hdecode : decode e (op :: bs) = decodeIn .base baseRows e op bs :=
    (if_neg (ne_of_lookup h rfl)).trans ((if_neg (ne_of_lookup h rfl)).trans
      ((if_neg (ne_of_lookup h rfl)).trans (if_neg (ne_of_lookup h rfl))))
  exact hdecode.trans (decodeIn_fill h hfill)

theorem decode_cb (h : lookup cbRows op = some t) (hfill : t.fill e bs = some (i, rest)) :
    decode e (0xCB :: op :: bs) = .ok (i, rest) :=
  decodeIn_fill h hfill

theorem edRows_cb : lookup edRows 0xCB = none :=
  (lookup_append_of_none (rows := edRows1 ++ edRows2) rfl).trans rfl

theorem decode_ed (h : lookup edRows op = some t) (hfill : t.fill e bs = some (i, rest)) :
    decode e (0xED :: op :: bs) = .ok (i, rest) :=
  (if_neg (ne_of_lookup h edRows_cb)).trans (decodeIn_fill h hfill)

/-- The same for a row of the last part of page ED. -/
theorem decode_ed_last (hnone : lookup (edRows1 ++ edRows2) op = none) (h : lookup edRows3 op = some t)
    (hfill : t.fill e bs = some (i, rest)) : decode e (0xED :: op :: bs) = .ok (i, rest) :=
  decode_ed ((lookup_append_of_none hnone).trans h) hfill

theorem decode_edcb (h : lookup edcbRows op = some t) (hfill : t.fill e bs = some (i, rest)) :
    decode e (0xED :: 0xCB :: op :: bs) = .ok (i, rest) :=
  decodeIn_fill h hfill

theorem decode_idx {y : Idx} (h : lookup (idxRows y) op = some t) (hfill : t.fill e bs = some (i, rest)) :
    decode e (y.byte :: op :: bs) = .ok (i, rest) := by
  have hcb : lookup (idxRows y) 0xCB = none := by cases y <;> rfl
  have hidx : decodeIdx y e (op :: bs) = .ok (i, rest) := (if_neg (ne_of_lookup h hcb)).trans (decodeIn_fill h hfill)
  cases y <;> exact hidx

/-- R150: the displacement stands between the two bytes of its page and the opcode byte. -/
theorem decode_idxCb {y : Idx} {f : Disp → Instr} {d : Disp} (h : lookup (idxCbRows y) op = some f) (hi : f d = i)
    (hfits : i.fits e = true) (hext : i.ext? = some d.ext) :
    decode e ([y.byte, 0xCB] ++ d.bytes ++ [op] ++ rest) = .ok (i, rest) := by
  obtain rfl := ext_eq_of_fits hfits hext
  have hcb : decodeIdxCb y d.ext (d.bytes ++ (op :: rest)) = .ok (i, rest) := by
    simp [decodeIdxCb, takeDisp_bytes, h, hi]
  rw [List.append_assoc, List.append_assoc]
  cases y <;> exact hcb

end

/-! ## The first row an opcode byte can match

A row whose value differs from the bits that are known of the opcode byte cannot match it, so it need not be tried at
each value of a coded field. -/

/-- The row matches some byte whose bits under `m` are `v`. -/
def agrees {α : Type} (m v : Byte) (r : Row α) : Bool := (r.value ^^^ v) &&& r.mask &&& m == 0

theorem agrees_of_match {α : Type} {r : Row α} {op m : Byte} (h : op &&& r.mask = r.value) :
    agrees m (op &&& m) r = true := by
  rw [agrees, ← h, beq_iff_eq]
  ext k hk
  rw [BitVec.getElem_and, BitVec.getElem_and, BitVec.getElem_xor, BitVec.getElem_and, BitVec.getElem_and,
    BitVec.ofNat_eq_ofNat, BitVec.getElem_zero]
  cases op[k] <;> cases r.mask[k] <;> cases m[k] <;> rfl

theorem lookup_agreeing {α : Type} {rows : List (Row α)} {op m v : Byte} (h : op &&& m = v) :
    lookup rows op = lookup (rows.filter (agrees m v)) op := by
  induction rows with
  | nil => rfl
  | cons r rs ih =>
    by_cases hr : agrees m v r = true
    · rw [List.filter_cons_of_pos hr, lookup, lookup, ih]
    · have hne : op &&& r.mask ≠ r.value := fun hmatch => hr (h ▸ agrees_of_match hmatch)
      rw [List.filter_cons_of_neg hr, lookup, if_neg hne, ih]

/-- R143: a row with a coded field answers each operand's code, if no row before it agrees with its fixed bits. -/
theorem lookup_coded_at {α β : Type} {rows tl : List (Row α)} {m v op : Byte} {read : Byte → Option β}
    {f : Byte → β → α} {x : β} {t : α} (h : rows.filter (agrees m v) = ⟨m, v, fun op => (read op).map (f op)⟩ :: tl)
    (hmatch : op &&& m = v) (hread : read op = some x) (ht : f op x = t) : lookup rows op = some t := by
  have hbuild : (read op).map (f op) = some t := by rw [hread, Option.map_some, ht]
  rw [lookup_agreeing hmatch, h, lookup, if_pos hmatch]
  simp only [hbuild]

theorem lookup_coded {α β : Type} {rows tl : List (Row α)} {v c : Byte} {read : Byte → Option β} {f : Byte → β → α}
    {x : β} {t : α} (m : Byte) (h : rows.filter (agrees m v) = ⟨m, v, fun op => (read op).map (f op)⟩ :: tl)
    (hx : (v ||| c) &&& m = v ∧ read (v ||| c) = some x) (ht : f (v ||| c) x = t) : lookup rows (v ||| c) = some t :=
  lookup_coded_at h hx.1 hx.2 ht

theorem reg8_ofCode_code (r : Reg8) : Reg8.ofCode (r.code.setWidth 3) = some r := by cases r <;> rfl

theorem reg8_code_lt (r : Reg8) : (r.code.setWidth 3).setWidth 8 = r.code := by cases r <;> rfl

/-- The same for a row with a bit number and a register. -/
theorem lookup_bit_reg8 {α : Type} {rows tl : List (Row α)} {v : Byte} {f : Byte → Reg8 → α} {t : α} {k : BitVec 3}
    {r : Reg8} (h : rows.filter (agrees 0xC0 v) = ⟨0xC0, v, fun op => (Reg8.ofCode (field op 0 3)).map (f op)⟩ :: tl)
    (hfields : ∀ k c : BitVec 3, (v ||| at' (k.setWidth 8) 3 ||| c.setWidth 8) &&& 0xC0 = v
      ∧ field (v ||| at' (k.setWidth 8) 3 ||| c.setWidth 8) 0 3 = c
      ∧ field (v ||| at' (k.setWidth 8) 3 ||| c.setWidth 8) 3 3 = k) (ht : ∀ op, field op 3 3 = k → f op r = t) :
    lookup rows (v ||| at' (k.setWidth 8) 3 ||| r.code) = some t := by
  obtain ⟨hmatch, hcode, hbit⟩ := hfields k (r.code.setWidth 3)
  rw [reg8_code_lt] at hmatch hcode hbit
  exact lookup_coded_at h hmatch (by rw [hcode, reg8_ofCode_code]) (ht _ hbit)

/-! ## Instructions with two coded fields -/

section
variable {e : Ext} {rest : List Byte}

theorem decode_ldRR (r r' : Reg8) : decode e (encode (.ldRR r r') ++ rest) = .ok (.ldRR r r', rest) := by
  cases r <;> cases r' <;> exact decode_base rfl rfl

theorem decode_ldHalfS (y : Idx) (x : Half) (src : HalfSrc) (hwf : src.wf = true) :
    decode e (encode (.ldHalfS y x src) ++ rest) = .ok (.ldHalfS y x src, rest) := by
  cases src with
  | reg r =>
    cases r with
    | b | c | d | e | a => cases y <;> cases x <;> exact decode_idx rfl rfl
    | h | l => cases hwf
  | half x' => cases y <;> cases x <;> cases x' <;> exact decode_idx rfl rfl

theorem decode_ldRHalf (r : Reg8) (y : Idx) (x : Half) (hwf : r.besideHalf = true) :
    decode e (encode (.ldRHalf r y x) ++ rest) = .ok (.ldRHalf r y x, rest) := by
  cases r with
  | b | c | d | e | a => cases y <;> cases x <;> exact decode_idx rfl rfl
  | h | l => cases hwf

end

/-! ## Decoding gives back every instruction -/

/-- The instructions of pages DD, FD, DD CB and FD CB. -/
def onIdxPage : Instr → Bool
  | .addXyTt .. | .ldIndPpXy .. | .ldXyIndPp .. | .ldXyPp .. | .ldPpXy .. | .ldPpIndUu .. | .ldIndPpUu .. | .ldPpDe ..
  | .ldPpHl .. | .djnzE16 .. | .jrE16 .. | .calrE16 .. | .djnzE24 .. | .jrE24 .. | .calrE24 .. | .jrCcE16 ..
  | .jrCcE24 .. | .ldXyNn .. | .ldDirNnXy .. | .ldXyDirNn .. | .incXy .. | .decXy .. | .swapXy .. | .addwHlXy ..
  | .adcwHlXy .. | .subwHlXy .. | .sbcwHlXy .. | .andwHlXy .. | .xorwHlXy .. | .orwHlXy .. | .cpwHlXy .. | .popXy ..
  | .exIndSpXy .. | .pushXy .. | .jpIndXy .. | .ldSpXy .. | .incHalf .. | .decHalf .. | .ldHalfN .. | .addAHalf ..
  | .adcAHalf .. | .subHalf .. | .sbcAHalf .. | .andHalf .. | .xorHalf .. | .orHalf .. | .cpHalf .. | .incIdxD ..
  | .decIdxD .. | .addAIdxD .. | .adcAIdxD .. | .subIdxD .. | .sbcAIdxD .. | .andIdxD .. | .xorIdxD .. | .orIdxD ..
  | .cpIdxD .. | .addwHlIdxD .. | .adcwHlIdxD .. | .subwHlIdxD .. | .sbcwHlIdxD .. | .andwHlIdxD .. | .xorwHlIdxD ..
  | .orwHlIdxD .. | .cpwHlIdxD .. | .ldIdxDN .. | .outwPortCNn .. | .outawDirNnHl .. | .inawHlDirNn .. | .pushNn ..
  | .ldHalfS .. | .ldRHalf .. | .ldRIdxD .. | .ldIdxDR .. | .calrCcE16 .. | .calrCcE24 .. | .ldctlSrN ..
  | .ldctlXsrN .. | .diN .. | .eiN .. | .ldIxIy | .cplw | .inwBcPortC | .inwDePortC | .inwHlPortC | .outwPortCBc
  | .outwPortCDe | .outwPortCHl | .ldIHl | .ldHlI | .ddirW | .ddirIbW | .ddirIwW | .ddirIb | .ldctlSrA | .mtest
  | .ldctlAXsr | .ldctlXsrA | .exxx | .setcLw | .rescLw | .ldctlYsrN .. | .ldIyIx | .ddirLw | .ddirIbLw | .ddirIwLw
  | .ddirIw | .ldctlAYsr | .ldctlYsrA | .exxy | .setcXm | .rlcIdxD .. | .rrcIdxD .. | .rlIdxD .. | .rrIdxD ..
  | .slaIdxD .. | .sraIdxD .. | .srlIdxD .. | .rlcwIdxD .. | .rrcwIdxD .. | .rlwIdxD .. | .rrwIdxD .. | .slawIdxD ..
  | .srawIdxD .. | .srlwIdxD .. | .ldXySpD .. | .ldYxIdxD .. | .ldSpDXy .. | .ldIdxDYx .. | .multwHlIdxD ..
  | .multuwHlIdxD .. | .divuwHlIdxD .. | .bitBIdxD .. | .resBIdxD .. | .setBIdxD .. | .ldPpSpD .. | .ldSpDPp ..
  | .ldPpIdxD .. | .ldIdxDPp .. => true
  | _ => false

/-- R166, R167: the row of each instruction is the one its opcode byte finds; here for pages DD and FD. -/
theorem decode_encode_idx {i : Instr} {e : Ext} {rest : List Byte} (hpage : onIdxPage i = true) (hwf : i.wf = true)
    (hfits : i.fits e = true) : decode e (encode i ++ rest) = .ok (i, rest) := by
  cases i with
  | addXyTt y t =>
    cases y <;> cases t <;> exact decode_idx rfl rfl
  | ldIndPpXy p y | ldXyIndPp y p | ldXyPp y p | ldPpXy p y =>
    cases p <;> cases y <;> exact decode_idx rfl rfl
  | ldPpIndUu p p' =>
    cases p <;> cases p' <;> exact decode_idx (y := .ix) rfl rfl
  | ldIndPpUu p p' =>
    cases p <;> cases p' <;> exact decode_idx (y := .iy) rfl rfl
  | ldPpDe p =>
    cases p <;> exact decode_idx (y := .ix) rfl rfl
  | ldPpHl p =>
    cases p <;> exact decode_idx (y := .iy) rfl rfl
  | djnzE16 _ | jrE16 _ | calrE16 _ =>
    exact decode_idx (y := .ix) rfl (fill_e16 _ _ _)
  | djnzE24 _ | jrE24 _ | calrE24 _ =>
    exact decode_idx (y := .iy) rfl (fill_e24 _ _ _)
  | jrCcE16 cc _ =>
    cases cc with
    | nz | z | nc | c => exact decode_idx (y := .ix) rfl (fill_e16 _ _ _)
    | po | pe | p | m => cases hwf
  | jrCcE24 cc _ =>
    cases cc with
    | nz | z | nc | c => exact decode_idx (y := .iy) rfl (fill_e24 _ _ _)
    | po | pe | p | m => cases hwf
  | ldXyNn y _ | ldDirNnXy _ y | ldXyDirNn y _ =>
    cases y <;> exact decode_idx rfl (fill_imm hfits rfl)
  | incXy y | decXy y | swapXy y | addwHlXy y | adcwHlXy y | subwHlXy y | sbcwHlXy y | andwHlXy y | xorwHlXy y
  | orwHlXy y | cpwHlXy y | popXy y | exIndSpXy y | pushXy y | jpIndXy y | ldSpXy y =>
    cases y <;> exact decode_idx rfl rfl
  | incHalf y x | decHalf y x | ldHalfN y x _ =>
    cases y <;> cases x <;> exact decode_idx rfl rfl
  | addAHalf y x | adcAHalf y x | subHalf y x | sbcAHalf y x | andHalf y x
  | xorHalf y x | orHalf y x | cpHalf y x =>
    cases y <;> exact decode_idx (lookup_coded (x := x) 0xFE rfl (by cases x <;> exact ⟨rfl, rfl⟩) rfl) rfl
  | incIdxD y _ | decIdxD y _ | addAIdxD y _ | adcAIdxD y _ | subIdxD y _ | sbcAIdxD y _ | andIdxD y _ | xorIdxD y _
  | orIdxD y _ | cpIdxD y _ | addwHlIdxD y _ | adcwHlIdxD y _ | subwHlIdxD y _ | sbcwHlIdxD y _ | andwHlIdxD y _
  | xorwHlIdxD y _ | orwHlIdxD y _ | cpwHlIdxD y _ =>
    cases y <;> exact decode_idx rfl (fill_d hfits rfl)
  | ldIdxDN y _ _ =>
    cases y <;> exact decode_idx rfl (fill_dn8 hfits rfl)
  | outwPortCNn _ | outawDirNnHl _ | inawHlDirNn _ | pushNn _ =>
    exact decode_idx (y := .iy) rfl (fill_imm hfits rfl)
  | ldHalfS y x src =>
    exact decode_ldHalfS y x src hwf
  | ldRHalf r y x =>
    exact decode_ldRHalf r y x hwf
  | ldRIdxD r y _ | ldIdxDR y _ r =>
    cases r <;> cases y <;> exact decode_idx rfl (fill_d hfits rfl)
  | calrCcE16 cc _ =>
    exact decode_idx (y := .ix) (lookup_coded (x := cc) 0xC7 rfl (by cases cc <;> exact ⟨rfl, rfl⟩) rfl) (fill_e16 _ _ _)
  | calrCcE24 cc _ =>
    exact decode_idx (y := .iy) (lookup_coded (x := cc) 0xC7 rfl (by cases cc <;> exact ⟨rfl, rfl⟩) rfl) (fill_e24 _ _ _)
  | ldctlSrN _ | ldctlXsrN _ | diN _ | eiN _ | ldIxIy | cplw | inwBcPortC | inwDePortC | inwHlPortC | outwPortCBc
  | outwPortCDe | outwPortCHl | ldIHl | ldHlI | ddirW | ddirIbW | ddirIwW | ddirIb | ldctlSrA | mtest | ldctlAXsr
  | ldctlXsrA | exxx | setcLw | rescLw =>
    exact decode_idx (y := .ix) rfl rfl
  | ldctlYsrN _ | ldIyIx | ddirLw | ddirIbLw | ddirIwLw | ddirIw | ldctlAYsr | ldctlYsrA | exxy | setcXm =>
    exact decode_idx (y := .iy) rfl rfl
  | rlcIdxD y _ | rrcIdxD y _ | rlIdxD y _ | rrIdxD y _ | slaIdxD y _ | sraIdxD y _ | srlIdxD y _ | rlcwIdxD y _
  | rrcwIdxD y _ | rlwIdxD y _ | rrwIdxD y _ | slawIdxD y _ | srawIdxD y _ | srlwIdxD y _ | ldXySpD y _ | ldYxIdxD y _
  | ldSpDXy _ y | ldIdxDYx y _ | multwHlIdxD y _ | multuwHlIdxD y _ | divuwHlIdxD y _ =>
    cases y <;> exact decode_idxCb rfl rfl hfits rfl
  | bitBIdxD k y _ | resBIdxD k y _ | setBIdxD k y _ =>
    obtain ⟨k⟩ := k
    fin_cases k <;> cases y <;> exact decode_idxCb rfl rfl hfits rfl
  | ldPpSpD p _ | ldSpDPp _ p =>
    cases p <;> exact decode_idxCb (y := .ix) rfl rfl hfits rfl
  | ldPpIdxD p y _ | ldIdxDPp y _ p =>
    cases p <;> cases y <;> exact decode_idxCb rfl rfl hfits rfl
  | _ => cases hpage

/-- The same for the other pages. -/
theorem decode_encode_plain {i : Instr} {e : Ext} {rest : List Byte} (hpage : onIdxPage i = false) (hwf : i.wf = true)
    (hfits : i.fits e = true) : decode e (encode i ++ rest) = .ok (i, rest) := by
  cases i with
  | ldDdNn p _ =>
    exact decode_base (lookup_coded (x := p) 0xCF rfl (by cases p <;> exact ⟨rfl, rfl⟩) rfl) (fill_imm hfits rfl)
  | incDd p | decDd p | addHlDd p =>
    exact decode_base (lookup_coded (x := p) 0xCF rfl (by cases p <;> exact ⟨rfl, rfl⟩) rfl) rfl
  | incR r | decR r | ldRN r _ =>
    exact decode_base (lookup_coded (x := r) 0xC7 rfl (by cases r <;> exact ⟨rfl, rfl⟩) rfl) rfl
  | ldIndHlR r | ldRIndHl r =>
    cases r <;> exact decode_base rfl rfl
  | addAR r | adcAR r | subR r | sbcAR r | andR r | xorR r
  | orR r | cpR r =>
    exact decode_base (lookup_coded (x := r) 0xF8 rfl (by cases r <;> exact ⟨rfl, rfl⟩) rfl) rfl
  | ldIndHlN _ | djnzE8 _ | jrE8 _ | addAN _ | adcAN _ | subN _ | sbcAN _ | andN _ | xorN _ | orN _ | cpN _
  | outPortNA _ | inAPortN _ | nop | ldIndBcA | ldIndDeA | ldAIndBc | ldAIndDe | incIndHl | decIndHl | rlca | rrca
  | rla | rra | exAfAfAlt | daa | cpl | scf | ccf | halt | addAIndHl | adcAIndHl | subIndHl | sbcAIndHl | andIndHl
  | xorIndHl | orIndHl | cpIndHl | popAf | pushAf | ret | exx | exIndSpHl | jpIndHl | exDeHl | di | ei | ldSpHl =>
    exact decode_base rfl rfl
  | jrCcE8 cc _ =>
    cases cc with
    | nz | z | nc | c => exact decode_base rfl rfl
    | po | pe | p | m => cases hwf
  | ldDirNnHl _ | ldHlDirNn _ | ldDirNnA _ | ldADirNn _ | jpNn _ | callNn _ =>
    exact decode_base rfl (fill_imm hfits rfl)
  | ldRR r r' =>
    exact decode_ldRR r r'
  | retCc cc =>
    exact decode_base (lookup_coded (x := cc) 0xC7 rfl (by cases cc <;> exact ⟨rfl, rfl⟩) rfl) rfl
  | popQq p | pushQq p =>
    exact decode_base (lookup_coded (x := p) 0xCF rfl (by cases p <;> exact ⟨rfl, rfl⟩) rfl) rfl
  | jpCcNn cc _ | callCcNn cc _ =>
    exact decode_base (lookup_coded (x := cc) 0xC7 rfl (by cases cc <;> exact ⟨rfl, rfl⟩) rfl) (fill_imm hfits rfl)
  | rstP k =>
    obtain ⟨k⟩ := k
    fin_cases k <;> exact decode_base rfl rfl
  | rlcR r | rrcR r | rlR r | rrR r | slaR r | sraR r | srlR r | exRRAlt r =>
    exact decode_cb (lookup_coded (x := r) 0xF8 rfl (by cases r <;> exact ⟨rfl, rfl⟩) rfl) rfl
  | bitBR k r =>
    exact decode_cb (t := .done (.bitBR k r)) (lookup_bit_reg8 rfl (by decide) (by rintro op rfl; rfl)) rfl
  | resBR k r =>
    exact decode_cb (t := .done (.resBR k r)) (lookup_bit_reg8 rfl (by decide) (by rintro op rfl; rfl)) rfl
  | setBR k r =>
    exact decode_cb (t := .done (.setBR k r)) (lookup_bit_reg8 rfl (by decide) (by rintro op rfl; rfl)) rfl
  | bitBIndHl k | resBIndHl k | setBIndHl k =>
    obtain ⟨k⟩ := k
    fin_cases k <;> exact decode_cb rfl rfl
  | ldPpBc p =>
    cases p <;> exact decode_ed rfl rfl
  | addwHlPp p | adcwHlPp p | subwHlPp p | sbcwHlPp p | andwHlPp p | xorwHlPp p | orwHlPp p | cpwHlPp p =>
    exact decode_ed (lookup_coded (x := p) 0xFC rfl (by cases p <;> exact ⟨rfl, rfl⟩) rfl) rfl
  | swapPp p =>
    cases p <;> exact decode_ed rfl rfl
  | addwHlNn _ | adcwHlNn _ | subwHlNn _ | sbcwHlNn _ | andwHlNn _ | xorwHlNn _ | orwHlNn _ | cpwHlNn _ | addSpNn _
  | subSpNn _ =>
    exact decode_ed rfl (fill_imm hfits rfl)
  | rlcwWop x | rrcwWop x | rlwWop x | rrwWop x | slawWop x | srawWop x | srlwWop x =>
    exact decode_edcb (lookup_coded (x := x) 0xF8 rfl (by cases x <;> exact ⟨rfl, rfl⟩) rfl) rfl
  | in0RPortN r _ | out0PortNR _ r | tstR r | exAR r | inRPortC r | outPortCR r =>
    exact decode_ed (lookup_coded (x := r) 0xC7 rfl (by cases r <;> exact ⟨rfl, rfl⟩) rfl) rfl
  | in0PortN _ | tstN _ | outPortCN _ | tstioN _ | exBcIx | exBcIy | exDeIx | exDeIy | exHlIx | exHlIy | exIxIy
  | tstIndHl | exBcDe | exBcHl | exAIndHl | neg | negw | retn | reti | im0 | im1 | im2 | im3 | ldIA | ldRA | ldAI
  | ldAR | exts | extsw | rrd | rld | slp | otim | otdm | otimr | otdmr | ldi | cpi | ini | outi | ldd | cpd | ind
  | outd | ldir | cpir | inir | otir =>
    exact decode_ed rfl rfl
  | ldIndPpNn p _ =>
    cases p <;> exact decode_ed rfl (fill_imm hfits rfl)
  | sbcHlDd p | adcHlDd p | mltDd p =>
    exact decode_ed (lookup_coded (x := p) 0xCF rfl (by cases p <;> exact ⟨rfl, rfl⟩) rfl) rfl
  | ldDirNnDd _ p | ldDdDirNn p _ =>
    exact decode_ed (lookup_coded (x := p) 0xCF rfl (by cases p <;> exact ⟨rfl, rfl⟩) rfl) (fill_imm hfits rfl)
  | addHlDirNn _ | subHlDirNn _ | outaDirNnA _ | inaADirNn _ =>
    exact decode_ed_last rfl rfl (fill_imm hfits rfl)
  | calrCcE8 cc _ =>
    cases cc <;> exact decode_ed_last rfl rfl rfl
  | calrE8 _ | ldctlDsrN _ | lddr | cpdr | indr | otdr | ldctlHlSr | ldctlSrHl | popSr | pushSr | btest | ldctlADsr
  | ldctlDsrA | exall | ldiw | lddw | ldirw | lddrw | iniw | indw | inirw | indrw | outiw | outdw | otirw | otdrw
  | setcLck | rescLck =>
    exact decode_ed_last rfl rfl rfl
  | multwHlWop x | multuwHlWop x | divuwHlWop x =>
    cases x with
    | bc | de | hl | ix | iy => exact decode_edcb rfl rfl
    | indHl => cases hwf
  | multwHlNn _ | multuwHlNn _ | divuwHlNn _ =>
    exact decode_edcb rfl (fill_imm hfits rfl)
  | rlcIndHl | rrcIndHl | rlIndHl | rrIndHl | slaIndHl | sraIndHl | srlIndHl =>
    exact decode_cb rfl rfl
  | exBcBcAlt | exDeDeAlt | exHlHlAlt | exIxIxAlt | exIyIyAlt =>
    exact decode_edcb rfl rfl
  | _ => cases hpage

/-- Settles O3: the fixed bits of an opcode byte find the row of its instruction, and its fields are read as they are
written. -/
theorem decodeUndoesEncode : Obligations.DecodeUndoesEncode := by
  intro i e rest hwf hfits
  cases hpage : onIdxPage i with
  | true => exact decode_encode_idx hpage hwf hfits
  | false => exact decode_encode_plain hpage hwf hfits

end Sys2Proof.Proofs

namespace Sys2Proof.Machine

open Sys2Proof Sys2Proof.Proofs

/-! ## Effects built up one operation at a time

An instruction is a chain of the shared operations. Each lemma here says what one more operation adds to the effect of
those before it; an instruction's effect is then the chain of these lemmas. -/

/-- The state with another PC and nothing else changed. -/
def atPc (s : State) (p : Long) : State := { s with pc := p }

/-- R36: the address after an instruction of `n` bytes. -/
theorem after_eq (s : State) {i : Instr} {n : Nat} (hn : (encode i).length = n) :
    s.after i = ringed s.xm (s.pc + BitVec.ofNat 32 n) := by
  rw [State.after, hn]

theorem advance_eq_atPc (s : State) {i : Instr} {n : Nat} (hn : (encode i).length = n) :
    s.advance n = atPc s (s.after i) := by
  rw [after_eq s hn]
  rfl

theorem zext32_byte_inj {v w : Byte} (h : zext32 v = zext32 w) : v = w := by
  have hval := congrArg BitVec.toNat h
  simp only [zext32, BitVec.toNat_setWidth] at hval
  apply BitVec.eq_of_toNat_eq
  omega

/-- States whose registers hold the same have the same flags. -/
theorem flags_eq_of_look {s t : State} (h : ∀ l, t.look l = s.look l) : t.flags = s.flags := by
  have hsr : t.sr = s.sr := h .sr
  have hloc : t.locF = s.locF := by rw [State.locF, State.locF, State.mainBank, State.afp, hsr]; rfl
  have hf : zext32 t.f = zext32 s.f := by rw [f_look, f_look, hloc, h]
  rw [State.flags, State.flags, zext32_byte_inj hf]

/-- A further write can be added at this place: neither the place nor SR is written yet, the flags are not computed yet, and
no directive is made pending. -/
structure Effect.FreshAt (e : Effect) (s : State) (l : Loc) : Prop where
  place : l ∉ e.places s
  sr : Loc.sr ∉ e.places s
  flags : e.flags = none
  ddir : e.ddir = none

section
variable {s t u : State} {i : Instr} {e : Effect}

@[simp] theorem freshAt_iff {l : Loc} :
    e.FreshAt s l ↔ l ∉ e.places s ∧ Loc.sr ∉ e.places s ∧ e.flags = none ∧ e.ddir = none :=
  ⟨fun ⟨hplace, hsr, hflags, hddir⟩ => ⟨hplace, hsr, hflags, hddir⟩,
    fun ⟨hplace, hsr, hflags, hddir⟩ => ⟨hplace, hsr, hflags, hddir⟩⟩

/-! ### The places of an effect -/

@[simp] theorem mem_places {l : Loc} :
    l ∈ e.places s ↔ l = .pc ∨ l ∈ e.writes.map Prod.fst ∨ (e.flags.isSome ∧ l = s.locF) := by
  cases hf : e.flags <;> simp [Effect.places, hf]

@[simp] theorem locPair_def (p : Pair) : s.locPair p = .gp s.mainBank s.alt p := rfl

@[simp] theorem locPairAlt_def (p : Pair) : s.locPairAlt p = .gp s.mainBank (!s.alt) p := rfl

@[simp] theorem locA_def : s.locA = .a s.mainBank s.afp := rfl

@[simp] theorem locAAlt_def : s.locAAlt = .a s.mainBank (!s.afp) := rfl

@[simp] theorem locF_def : s.locF = .f s.mainBank s.afp := rfl

@[simp] theorem locIdx_def (y : Idx) : s.locIdx y = .idx (s.idxBank y) (s.idxSet y) y := rfl

@[simp] theorem locIdxAlt_def (y : Idx) : s.locIdxAlt y = .idx (s.idxBank y) (!s.idxSet y) y := rfl

/-- An 8-bit register lies in A or in a pair. -/
theorem locReg8_cases (r : Reg8) : s.locReg8 r = s.locA ∨ ∃ p, s.locReg8 r = s.locPair p := by
  cases r
  case a => exact .inl rfl
  all_goals exact .inr ⟨_, rfl⟩

@[simp] theorem locReg8_ne_pc (r : Reg8) : s.locReg8 r ≠ .pc := by
  obtain h | ⟨p, h⟩ := locReg8_cases (s := s) r <;> simp [h]

@[simp] theorem sr_ne_locReg8 (r : Reg8) : Loc.sr ≠ s.locReg8 r := by
  obtain h | ⟨p, h⟩ := locReg8_cases (s := s) r <;> simp [h]

@[simp] theorem f_ne_locReg8 (k : BitVec 2) (x : Bool) (r : Reg8) : Loc.f k x ≠ s.locReg8 r := by
  obtain h | ⟨p, h⟩ := locReg8_cases (s := s) r <;> simp [h]

theorem locPair4_cases (p : Pair4) : s.locPair4 p = .sp ∨ ∃ q, s.locPair4 p = s.locPair q := by
  cases p
  case sp => exact .inl rfl
  all_goals exact .inr ⟨_, rfl⟩

@[simp] theorem locPair4_ne_pc (p : Pair4) : s.locPair4 p ≠ .pc := by
  obtain h | ⟨q, h⟩ := locPair4_cases (s := s) p <;> simp [h]

/-- Only PC moved. -/
theorem hasEffect_atPc {g : Option Long} {p : Long} (hg : g.getD (s.after i) = p) :
    HasEffect s i { goto := g } (atPc s p) := by
  refine hasEffect_intro hg.symm (fun _ hw => absurd hw List.not_mem_nil) ?_ ?_ (fun _ => rfl) rfl rfl (fun _ => rfl)
    rfl rfl rfl rfl
  · intro l hl
    have hpc : l ≠ .pc := List.ne_of_not_mem_cons hl
    cases l with
    | idx k alt y => cases y <;> rfl
    | pc => exact absurd rfl hpc
    | _ => rfl
  · intro P hP
    cases hP

theorem hasEffect_advance {n : Nat} (hn : (encode i).length = n) : HasEffect s i {} (s.advance n) := by
  rw [advance_eq_atPc s hn]
  exact hasEffect_atPc rfl

/-! ### What an effect says of the state it leads to -/

theorem HasEffect.look_eq (h : HasEffect s i e t) {l : Loc} (hl : l ∉ e.places s) : t.look l = s.look l := by
  obtain ⟨-, -, hu, -⟩ := h
  exact hu l hl

theorem HasEffect.sr_eq (h : HasEffect s i e t) (hsr : Loc.sr ∉ e.places s) : t.sr = s.sr := h.look_eq hsr

theorem HasEffect.params_eq (h : HasEffect s i e t) : t.params = s.params := by
  obtain ⟨-, -, -, -, -, -, -, -, -, -, -, hparams⟩ := h
  exact hparams

theorem HasEffect.kind_eq (h : HasEffect s i e t) (a : Long) : t.kind a = s.kind a := by
  rw [State.kind, State.kind, h.params_eq]

theorem HasEffect.xm_eq (h : HasEffect s i e t) (hsr : Loc.sr ∉ e.places s) : t.xm = s.xm := by
  rw [State.xm, State.xm, h.sr_eq hsr]

theorem HasEffect.locPair_eq (h : HasEffect s i e t) (hsr : Loc.sr ∉ e.places s) (p : Pair) :
    t.locPair p = s.locPair p := by
  rw [State.locPair, State.locPair, State.mainBank, State.alt, h.sr_eq hsr]
  rfl

theorem HasEffect.locPairAlt_eq (h : HasEffect s i e t) (hsr : Loc.sr ∉ e.places s) (p : Pair) :
    t.locPairAlt p = s.locPairAlt p := by
  rw [State.locPairAlt, State.locPairAlt, State.mainBank, State.alt, h.sr_eq hsr]
  rfl

theorem HasEffect.locA_eq (h : HasEffect s i e t) (hsr : Loc.sr ∉ e.places s) : t.locA = s.locA := by
  rw [State.locA, State.locA, State.mainBank, State.afp, h.sr_eq hsr]
  rfl

theorem HasEffect.locAAlt_eq (h : HasEffect s i e t) (hsr : Loc.sr ∉ e.places s) : t.locAAlt = s.locAAlt := by
  rw [State.locAAlt, State.locAAlt, State.mainBank, State.afp, h.sr_eq hsr]
  rfl

theorem HasEffect.locF_eq (h : HasEffect s i e t) (hsr : Loc.sr ∉ e.places s) : t.locF = s.locF := by
  rw [State.locF, State.locF, State.mainBank, State.afp, h.sr_eq hsr]
  rfl

theorem HasEffect.locIdx_eq (h : HasEffect s i e t) (hsr : Loc.sr ∉ e.places s) (y : Idx) : t.locIdx y = s.locIdx y := by
  cases y <;> simp [State.locIdx, State.idxBank, State.idxSet, State.ixBank, State.ixp, State.iyBank, State.iyp, h.sr_eq hsr]

theorem HasEffect.locIdxAlt_eq (h : HasEffect s i e t) (hsr : Loc.sr ∉ e.places s) (y : Idx) :
    t.locIdxAlt y = s.locIdxAlt y := by
  cases y <;>
    simp [State.locIdxAlt, State.idxBank, State.idxSet, State.ixBank, State.ixp, State.iyBank, State.iyp, h.sr_eq hsr]

theorem HasEffect.locReg8_eq (h : HasEffect s i e t) (hsr : Loc.sr ∉ e.places s) (r : Reg8) :
    t.locReg8 r = s.locReg8 r := by
  rw [State.locReg8, State.locReg8, h.locA_eq hsr, h.locPair_eq hsr]

theorem HasEffect.pair_eq (h : HasEffect s i e t) (hsr : Loc.sr ∉ e.places s) {p : Pair} (hl : s.locPair p ∉ e.places s) :
    t.pair p = s.pair p := by
  rw [pair_look, pair_look, h.locPair_eq hsr, h.look_eq hl]

theorem HasEffect.pairAlt_eq (h : HasEffect s i e t) (hsr : Loc.sr ∉ e.places s) {p : Pair}
    (hl : s.locPairAlt p ∉ e.places s) : t.pairAlt p = s.pairAlt p := by
  rw [pairAlt_look, pairAlt_look, h.locPairAlt_eq hsr, h.look_eq hl]

theorem HasEffect.idx_eq (h : HasEffect s i e t) (hsr : Loc.sr ∉ e.places s) {y : Idx} (hl : s.locIdx y ∉ e.places s) :
    t.idx y = s.idx y := by
  rw [idx_look, idx_look, h.locIdx_eq hsr, h.look_eq hl]

theorem HasEffect.idxAlt_eq (h : HasEffect s i e t) (hsr : Loc.sr ∉ e.places s) {y : Idx}
    (hl : s.locIdxAlt y ∉ e.places s) : t.idxAlt y = s.idxAlt y := by
  rw [idxAlt_look, idxAlt_look, h.locIdxAlt_eq hsr, h.look_eq hl]

theorem HasEffect.lwEff_eq (h : HasEffect s i e t) (hsr : Loc.sr ∉ e.places s) (hd : e.ddir = none) :
    t.lwEff = s.lwEff := by
  have hlw : t.lw = s.lw := by rw [State.lw, State.lw, h.sr_eq hsr]
  obtain ⟨-, -, -, -, -, hddir, -⟩ := h
  rw [hd] at hddir
  rw [State.lwEff, State.lwEff, hddir, hlw]

/-! ### One more register written -/

/-- The place may have been written before, with the same value. -/
theorem HasEffect.write_agreeing {l : Loc} {v : Long} (h : HasEffect s i e t) (hout : SameOutside t u)
    (hlook : ∀ m, u.look m = if m = l then v else t.look m) (hlpc : l ≠ .pc)
    (hagree : ∀ w ∈ e.writes, w.1 = l → w.2 = v) (hf : e.flags = none) :
    HasEffect s i { e with writes := e.writes ++ [(l, v)] } u := by
  obtain ⟨hpc, hw, hu, -, hm, hd, hp, hb, hin, hclock, hstale, hparams⟩ := h
  obtain ⟨hmem, hddir, hport, hbus, hinputs, hclock', hstale', hparams'⟩ := hout
  refine hasEffect_intro ?_ ?_ ?_ ?_ ?_ (hddir.trans hd) (hport.trans hp) (fun hoff => hbus.trans (hb hoff))
    (hinputs.trans hin) (hclock'.trans hclock) (hstale'.trans hstale) (hparams'.trans hparams)
  · have hat : u.look .pc = t.look .pc := by rw [hlook, if_neg hlpc.symm]
    exact hat.trans hpc
  · intro w hw'
    rcases List.mem_append.1 hw' with hw' | hw'
    · rw [hlook]
      split
      · rename_i hwl
        exact (hagree w hw' hwl).symm
      · exact hw w hw'
    · obtain rfl := List.mem_singleton.1 hw'
      rw [hlook, if_pos rfl]
  · intro m hm'
    rw [mem_places, List.map_append, List.mem_append, not_or, not_or, not_or] at hm'
    obtain ⟨hmpc, ⟨hmw, hml⟩, hmf⟩ := hm'
    rw [hlook, if_neg (List.mem_singleton.not.1 hml), hu m]
    rw [mem_places, not_or, not_or]
    exact ⟨hmpc, hmw, hmf⟩
  · intro P hP
    rw [show ({ e with writes := e.writes ++ [(l, v)] } : Effect).flags = e.flags from rfl, hf] at hP
    cases hP
  · cases hstore : e.store with
    | none =>
      rw [hstore] at hm
      exact fun a => (hmem a).trans (hm a)
    | some x =>
      rw [hstore] at hm
      obtain ⟨hst, hbut⟩ := hm
      exact ⟨fun k hk hr => (hmem _).trans (hst k hk hr), fun a ha => (hmem a).trans (hbut a ha)⟩

theorem HasEffect.write {l : Loc} {v : Long} (h : HasEffect s i e t) (hout : SameOutside t u)
    (hlook : ∀ m, u.look m = if m = l then v else t.look m) (hl : l ∉ e.places s) (hf : e.flags = none) :
    HasEffect s i { e with writes := e.writes ++ [(l, v)] } u := by
  rw [mem_places, not_or, not_or] at hl
  obtain ⟨hlpc, hlw, -⟩ := hl
  exact h.write_agreeing hout hlook hlpc (fun w hw hwl => absurd (hwl ▸ List.mem_map_of_mem hw) hlw) hf

theorem HasEffect.setPair (h : HasEffect s i e t) (p : Pair) (v : Long) (hl : e.FreshAt s (s.locPair p)) :
    HasEffect s i { e with writes := e.writes ++ [(s.locPair p, v)] } (t.setPair p v) :=
  h.write (sameOutside_setPair t p v) (h.locPair_eq hl.sr p ▸ look_setPair t p v) hl.place hl.flags

theorem HasEffect.setPairAlt (h : HasEffect s i e t) (p : Pair) (v : Long) (hl : e.FreshAt s (s.locPairAlt p)) :
    HasEffect s i { e with writes := e.writes ++ [(s.locPairAlt p, v)] } (t.setPairAlt p v) :=
  h.write ⟨fun _ => rfl, rfl, rfl, rfl, rfl, rfl, rfl, rfl⟩ (h.locPairAlt_eq hl.sr p ▸ look_setPairAlt t p v) hl.place
    hl.flags

theorem HasEffect.setA (h : HasEffect s i e t) (v : Byte) (hl : e.FreshAt s s.locA) :
    HasEffect s i { e with writes := e.writes ++ [(s.locA, zext32 v)] } (t.setA v) :=
  h.write ⟨fun _ => rfl, rfl, rfl, rfl, rfl, rfl, rfl, rfl⟩ (h.locA_eq hl.sr ▸ look_setA t v) hl.place hl.flags

theorem HasEffect.setAAlt (h : HasEffect s i e t) (v : Byte) (hl : e.FreshAt s s.locAAlt) :
    HasEffect s i { e with writes := e.writes ++ [(s.locAAlt, zext32 v)] } (t.setAAlt v) :=
  h.write ⟨fun _ => rfl, rfl, rfl, rfl, rfl, rfl, rfl, rfl⟩ (h.locAAlt_eq hl.sr ▸ look_setAAlt t v) hl.place hl.flags

theorem HasEffect.setF (h : HasEffect s i e t) (v : Byte) (hl : e.FreshAt s s.locF) :
    HasEffect s i { e with writes := e.writes ++ [(s.locF, zext32 v)] } (t.setF v) :=
  h.write ⟨fun _ => rfl, rfl, rfl, rfl, rfl, rfl, rfl, rfl⟩ (h.locF_eq hl.sr ▸ look_setF t v) hl.place hl.flags

theorem HasEffect.setIdx (h : HasEffect s i e t) (y : Idx) (v : Long) (hl : e.FreshAt s (s.locIdx y)) :
    HasEffect s i { e with writes := e.writes ++ [(s.locIdx y, v)] } (t.setIdx y v) :=
  h.write (sameOutside_setIdx t y v) (h.locIdx_eq hl.sr y ▸ look_setIdx t y v) hl.place hl.flags

theorem HasEffect.setIdxAlt (h : HasEffect s i e t) (y : Idx) (v : Long) (hl : e.FreshAt s (s.locIdxAlt y)) :
    HasEffect s i { e with writes := e.writes ++ [(s.locIdxAlt y, v)] } (t.setIdxAlt y v) :=
  h.write ⟨fun _ => rfl, rfl, rfl, rfl, rfl, rfl, rfl, rfl⟩ (h.locIdxAlt_eq hl.sr y ▸ look_setIdxAlt t y v) hl.place
    hl.flags

theorem HasEffect.setSp (h : HasEffect s i e t) (v : Long) (hl : e.FreshAt s .sp) :
    HasEffect s i { e with writes := e.writes ++ [(.sp, ringed s.xm v)] } (t.setSp v) :=
  h.write ⟨fun _ => rfl, rfl, rfl, rfl, rfl, rfl, rfl, rfl⟩ (h.xm_eq hl.sr ▸ look_setSp t v) hl.place hl.flags

theorem HasEffect.srUpdate (h : HasEffect s i e t) (m v : Long) (hl : e.FreshAt s .sr) :
    HasEffect s i { e with writes := e.writes ++ [(.sr, maskedBits m s.sr v)] } (t.srUpdate m v) :=
  h.write ⟨fun _ => rfl, rfl, rfl, rfl, rfl, rfl, rfl, rfl⟩ (h.sr_eq hl.sr ▸ look_srUpdate t m v) hl.place hl.flags

theorem HasEffect.setIreg (h : HasEffect s i e t) (v : Long) (hl : e.FreshAt s .ireg) :
    HasEffect s i { e with writes := e.writes ++ [(.ireg, v)] } (t.setIreg v) :=
  h.write ⟨fun _ => rfl, rfl, rfl, rfl, rfl, rfl, rfl, rfl⟩ (look_setIreg t v) hl.place hl.flags

theorem HasEffect.setR (h : HasEffect s i e t) (v : Byte) (hl : e.FreshAt s .r) :
    HasEffect s i { e with writes := e.writes ++ [(.r, zext32 v)] } (t.setR v) :=
  h.write ⟨fun _ => rfl, rfl, rfl, rfl, rfl, rfl, rfl, rfl⟩ (look_setR t v) hl.place hl.flags

theorem HasEffect.setIef2 (h : HasEffect s i e t) (x : Bool)
    (hl : Loc.ief2 ∉ e.places s) (hf : e.flags = none) :
    HasEffect s i { e with writes := e.writes ++ [(.ief2, zext32 (bit1 x))] } (t.setIef2 x) :=
  h.write ⟨fun _ => rfl, rfl, rfl, rfl, rfl, rfl, rfl, rfl⟩ (look_setIef2 t x) hl hf

theorem HasEffect.setEiShadow (h : HasEffect s i e t) (x : Bool)
    (hl : Loc.eiShadow ∉ e.places s) (hf : e.flags = none) :
    HasEffect s i { e with writes := e.writes ++ [(.eiShadow, zext32 (bit1 x))] } (t.setEiShadow x) :=
  h.write ⟨fun _ => rfl, rfl, rfl, rfl, rfl, rfl, rfl, rfl⟩ (look_setEiShadow t x) hl hf

theorem HasEffect.setHalted (h : HasEffect s i e t) (x : Bool) (hl : e.FreshAt s .halted) :
    HasEffect s i { e with writes := e.writes ++ [(.halted, zext32 (bit1 x))] } (t.setHalted x) :=
  h.write ⟨fun _ => rfl, rfl, rfl, rfl, rfl, rfl, rfl, rfl⟩ (look_setHalted t x) hl.place hl.flags

theorem HasEffect.setStandby (h : HasEffect s i e t) (x : Bool) (hl : e.FreshAt s .standby) :
    HasEffect s i { e with writes := e.writes ++ [(.standby, zext32 (bit1 x))] } (t.setStandby x) :=
  h.write ⟨fun _ => rfl, rfl, rfl, rfl, rfl, rfl, rfl, rfl⟩ (look_setStandby t x) hl.place hl.flags

/-! ### Parts of registers, and writes in the data format in force -/

theorem HasEffect.setReg8 (h : HasEffect s i e t) (r : Reg8) (v : Byte) (hl : e.FreshAt s (s.locReg8 r)) :
    HasEffect s i { e with writes := e.writes ++ [s.put8 r v] } (t.setReg8 r v) := by
  refine h.write ?_ (fun m => ?_) hl.place hl.flags
  · cases r <;> exact ⟨fun _ => rfl, rfl, rfl, rfl, rfl, rfl, rfl, rfl⟩
  · rw [look_setReg8, h.locReg8_eq hl.sr]
    cases r with
    | a => rfl
    | _ => rw [h.pair_eq hl.sr hl.place]

theorem HasEffect.setHalf (h : HasEffect s i e t) (y : Idx) (x : Half) (v : Byte) (hl : e.FreshAt s (s.locIdx y)) :
    HasEffect s i { e with writes := e.writes ++ [s.putHalf y x v] } (t.setHalf y x v) := by
  refine h.write ?_ (fun m => ?_) hl.place hl.flags
  · cases x <;> exact sameOutside_setIdx t y _
  · have hidx := h.idx_eq hl.sr hl.place
    rw [look_setHalf, h.locIdx_eq hl.sr]
    cases x with
    | u => exact congrArg (fun w => if m = s.locIdx y then withHi8 w v else t.look m) hidx
    | l => exact congrArg (fun w => if m = s.locIdx y then withLo8 w v else t.look m) hidx

theorem HasEffect.setPair4 (h : HasEffect s i e t) (p : Pair4) (v : Long) (hl : e.FreshAt s (s.locPair4 p)) :
    HasEffect s i { e with writes := e.writes ++ [s.put4 p v] } (t.setPair4 p v) := by
  cases p with
  | bc => exact h.setPair .bc v hl
  | de => exact h.setPair .de v hl
  | hl => exact h.setPair .hl v hl
  | sp => exact h.setSp v hl

theorem HasEffect.setPairLo (h : HasEffect s i e t) (p : Pair) (w : Word) (hl : e.FreshAt s (s.locPair p)) :
    HasEffect s i { e with writes := e.writes ++ [s.putLo p w] } (t.setPairLo p w) := by
  rw [State.setPairLo, h.pair_eq hl.sr hl.place]
  exact h.setPair p _ hl

theorem HasEffect.stepPair (h : HasEffect s i e t) (p : Pair) (k : Long) (hl : e.FreshAt s (s.locPair p)) :
    HasEffect s i { e with writes := e.writes ++ [s.putStep p k] } (t.stepPair p k) := by
  rw [State.stepPair, h.pair_eq hl.sr hl.place, h.xm_eq hl.sr]
  exact h.setPair p _ hl

theorem HasEffect.wrPair (h : HasEffect s i e t) (p : Pair) (v : Long) (hl : e.FreshAt s (s.locPair p)) :
    HasEffect s i { e with writes := e.writes ++ [s.putW p v] } (t.wrPair p v) := by
  rw [State.wrPair, h.pair_eq hl.sr hl.place, h.lwEff_eq hl.sr hl.ddir]
  exact h.setPair p _ hl

theorem HasEffect.wrPairAlt (h : HasEffect s i e t) (p : Pair) (v : Long) (hl : e.FreshAt s (s.locPairAlt p)) :
    HasEffect s i { e with writes := e.writes ++ [(s.locPairAlt p, wrW s.lwEff (s.pairAlt p) v)] } (t.wrPairAlt p v) := by
  rw [State.wrPairAlt, h.pairAlt_eq hl.sr hl.place, h.lwEff_eq hl.sr hl.ddir]
  exact h.setPairAlt p _ hl

theorem HasEffect.wrIdx (h : HasEffect s i e t) (y : Idx) (v : Long) (hl : e.FreshAt s (s.locIdx y)) :
    HasEffect s i { e with writes := e.writes ++ [s.putIdxW y v] } (t.wrIdx y v) := by
  rw [State.wrIdx, h.idx_eq hl.sr hl.place, h.lwEff_eq hl.sr hl.ddir]
  exact h.setIdx y _ hl

theorem HasEffect.wrIdxAlt (h : HasEffect s i e t) (y : Idx) (v : Long) (hl : e.FreshAt s (s.locIdxAlt y)) :
    HasEffect s i { e with writes := e.writes ++ [(s.locIdxAlt y, wrW s.lwEff (s.idxAlt y) v)] } (t.wrIdxAlt y v) := by
  rw [State.wrIdxAlt, h.idxAlt_eq hl.sr hl.place, h.lwEff_eq hl.sr hl.ddir]
  exact h.setIdxAlt y _ hl

/-! ### The flags, a store, the bus and PC -/

theorem HasEffect.setFlags {P : Flags → Prop} {fl : Flags} (h : HasEffect s i e t) (hP : P fl) (hl : e.FreshAt s s.locF) :
    HasEffect s i { e with flags := some P } (t.setFlags fl) := by
  have hloc : t.locF = s.locF := h.locF_eq hl.sr
  obtain ⟨hpc, hw, hu, -, hm, hd, hp, hb, hin, hclock, hstale, hparams⟩ := h
  refine hasEffect_intro hpc ?_ ?_ ?_ hm hd hp hb hin hclock hstale hparams
  · intro w hw'
    have hne : w.1 ≠ s.locF := by
      rintro heq
      exact hl.place (List.mem_cons_of_mem _ (List.mem_append_left _ (heq ▸ List.mem_map_of_mem hw')))
    rw [look_setFlags, hloc, if_neg hne, hw w hw']
  · intro m hm'
    rw [mem_places, not_or, not_or] at hm'
    obtain ⟨hmpc, hmw, hmf⟩ := hm'
    have hmf' : m ≠ s.locF := fun heq => hmf ⟨rfl, heq⟩
    rw [look_setFlags, hloc, if_neg hmf', hu m]
    rw [mem_places, hl.flags, not_or, not_or]
    exact ⟨hmpc, hmw, fun hnone => Bool.false_ne_true hnone.1⟩
  · intro Q hQ
    cases hQ
    rw [flags_setFlags]
    exact hP

theorem HasEffect.stores {a v : Long} {n : Nat} (h : HasEffect s i e t) (hst : Stored t u a n v ∧ SameMemBut t u a n)
    (hlook : ∀ l, u.look l = t.look l)
    (hbus : (∀ k, k < n → t.kind (a + BitVec.ofNat 32 k) ≠ .device) → u.busLog = t.busLog) (hddir : u.ddir = t.ddir)
    (hport : u.portIn = t.portIn) (hinputs : u.inputs = t.inputs) (hclk : u.clock = t.clock) (hstl : u.stale = t.stale)
    (hprm : u.params = t.params) (hs : e.store = none) :
    HasEffect s i { e with store := some (a, n, v) } u := by
  have hkind : ∀ x, t.kind x = s.kind x := h.kind_eq
  obtain ⟨hpc, hw, hu, hfl, hm, hd, hp, hb, hin, hclock, hstale, hparams⟩ := h
  obtain ⟨hstored, hbut⟩ := hst
  rw [hs] at hm
  have hoff : e.offDevices s := by
    intro x hx
    rw [hs] at hx
    cases hx
  refine hasEffect_intro ((hlook .pc).trans hpc) (fun w hw' => (hlook _).trans (hw w hw'))
    (fun l hl => (hlook l).trans (hu l hl)) (fun P hP => flags_eq_of_look hlook ▸ hfl P hP) ⟨?_, ?_⟩ (hddir.trans hd)
    (hport.trans hp) ?_ (hinputs.trans hin) (hclk.trans hclock) (hstl.trans hstale) (hprm.trans hparams)
  · exact fun k hk hr => hstored k hk ((hkind _).trans hr)
  · exact fun x hx => (hbut x hx).trans (hm x)
  · intro hoff'
    rw [hbus fun k hk => hkind _ ▸ hoff' _ rfl k hk]
    exact hb hoff

theorem HasEffect.writeByte (h : HasEffect s i e t) (a : Long) (v : Byte) (hs : e.store = none) :
    HasEffect s i { e with store := some (a, 1, zext32 v) } (t.writeByte a v) := by
  refine h.stores (stored_of_writeByte t a v fun _ => rfl) (look_writeByte t a v) (fun hoff => ?_) rfl rfl rfl rfl rfl rfl hs
  exact busLog_writeByte t a v (BitVec.add_zero a ▸ hoff 0 Nat.one_pos)

theorem HasEffect.writeWord (h : HasEffect s i e t) (a : Long) (w : Word) (hs : e.store = none) :
    HasEffect s i { e with store := some (a, 2, zext32 w) } (t.writeWord a w) := by
  refine h.stores (stored_of_writeWord t a w fun _ => rfl) (look_writeWord t a w) (fun hoff => ?_) rfl rfl rfl rfl rfl rfl hs
  exact busLog_writeWord t a w (BitVec.add_zero a ▸ hoff 0 Nat.two_pos) (hoff 1 Nat.one_lt_two)

theorem HasEffect.writeW (h : HasEffect s i e t) (long : Bool) (a v : Long) (hs : e.store = none) :
    HasEffect s i { e with store := some (a, if long then 4 else 2, v) } (t.writeW long a v) := by
  exact h.stores (stored_of_writeW t long a v fun _ => rfl) (look_writeW t long a v) (busLog_writeW t long a v)
    (writeW_ddir t long a v) (writeW_portIn t long a v) (writeW_inputs t long a v) (writeW_clock t long a v)
    (writeW_stale t long a v) (writeW_params t long a v) hs

theorem HasEffect.storeW (h : HasEffect s i e t) (a v : Long) (hs : e.store = none) (hd : e.ddir = none)
    (hsr : Loc.sr ∉ e.places s) :
    HasEffect s i { e with store := some (a, s.formatBytes, v) } (t.storeW a v) := by
  rw [State.storeW, h.lwEff_eq hsr hd]
  exact h.writeW s.lwEff a v hs

theorem HasEffect.pushW (h : HasEffect s i e t) (long : Bool) (a v : Long) (hs : e.store = none) :
    HasEffect s i { e with store := some (a, if long then 4 else 2, v) } (t.pushW long a v) := by
  exact h.stores (stored_of_writeW t long a v (readByte_pushW t long a v)) (look_pushW t long a v) (busLog_pushW t long a v)
    (pushW_ddir t long a v) (pushW_portIn t long a v) (pushW_inputs t long a v) (pushW_clock t long a v)
    (pushW_stale t long a v) (pushW_params t long a v) hs

theorem HasEffect.setPc (h : HasEffect s i e t) (v : Long) (hsr : Loc.sr ∉ e.places s)
    (hpcw : Loc.pc ∉ e.writes.map Prod.fst) :
    HasEffect s i { e with goto := some (ringed s.xm v) } (t.setPc v) := by
  have hxm : t.xm = s.xm := h.xm_eq hsr
  obtain ⟨-, hw, hu, hf, hm, hd, hp, hb, hin, hclock, hstale, hparams⟩ := h
  refine hasEffect_intro (hxm ▸ rfl) ?_ ?_ hf hm hd hp hb hin hclock hstale hparams
  · intro w hw'
    have hne : w.1 ≠ .pc := fun heq => hpcw (heq ▸ List.mem_map_of_mem hw')
    rw [look_setPc, if_neg hne, hw w hw']
  · intro l hl
    have hpc : l ≠ .pc := List.ne_of_not_mem_cons hl
    rw [look_setPc, if_neg hpc]
    exact hu l hl

/-- R340: an effect that stays at its instruction, and goes past it once it is over. -/
theorem HasEffect.repeatIf {n : Nat} (h : HasEffect s i e t) (hg : e.goto = some s.pc) (hn : (encode i).length = n)
    (again : Bool) (hsr : Loc.sr ∉ e.places s) (hpcw : Loc.pc ∉ e.writes.map Prod.fst) :
    HasEffect s i { e with goto := s.goesOn i again } (t.repeatIf again n) := by
  cases again with
  | true =>
    rw [State.goesOn, if_pos rfl, ← hg]
    exact h
  | false =>
    have hpc : t.pc = s.pc := by
      obtain ⟨hpc, -⟩ := h
      rw [hpc, hg]
      rfl
    rw [State.repeatIf, if_neg Bool.false_ne_true, State.advance, hpc, State.goesOn, if_neg Bool.false_ne_true, after_eq s hn]
    exact h.setPc _ hsr hpcw

theorem HasEffect.afterPortRead (h : HasEffect s i e t) (wide : Bool) (a : Long) (hs : e.store = none)
    (he : e.events = []) (hr : e.reads = 0) :
    HasEffect s i { e with events := [.portRead wide a (s.portAnswer wide a)], reads := 1 } (t.afterPortRead wide a) := by
  obtain ⟨hpc, hw, hu, hf, hm, hd, hp, hb, hin, hclock, hstale, hparams⟩ := h
  rw [hr, List.drop_zero] at hp
  have hanswer : t.portAnswer wide a = s.portAnswer wide a := by rw [State.portAnswer, State.portAnswer, hp, hclock]
  have hoff : e.offDevices s := by
    intro x hx
    rw [hs] at hx
    cases hx
  refine hasEffect_intro hpc (fun w hw' => (look_afterPortRead t wide a _).trans (hw w hw'))
    (fun l hl => (look_afterPortRead t wide a l).trans (hu l hl)) hf hm hd ?_ ?_ hin hclock hstale hparams
  · rw [afterPortRead_portIn, hp, List.drop_one]
  · intro _
    rw [afterPortRead_busLog, hanswer, hb hoff, he]
    rfl

theorem HasEffect.portWrite (h : HasEffect s i e t) (wide : Bool) (a : Long) (w : Word) (hs : e.store = none)
    (he : e.events = []) :
    HasEffect s i { e with events := [.portWrite wide a w] } (t.portWrite wide a w) := by
  obtain ⟨hpc, hw, hu, hf, hm, hd, hp, hb, hin, hclock, hstale, hparams⟩ := h
  have hoff : e.offDevices s := by
    intro x hx
    rw [hs] at hx
    cases hx
  refine hasEffect_intro hpc (fun x hx => (look_portWrite t wide a w _).trans (hw x hx))
    (fun l hl => (look_portWrite t wide a w l).trans (hu l hl)) hf hm hd hp ?_ hin hclock hstale hparams
  intro _
  rw [portWrite_busLog, hb hoff, he]
  rfl

end

end Sys2Proof.Machine

namespace Sys2Proof.Proofs

open Sys2Proof Sys2Proof.Machine

/-! ## Lengths of the encodings -/

section
variable {a b c : Byte}

theorem length_disp (d : Disp) : ([a, b] ++ d.bytes).length = 2 + dispSize d := by
  rw [List.length_append, disp_bytes_length]
  rfl

theorem length_disp_end (d : Disp) : ([a, b] ++ d.bytes ++ [c]).length = 3 + dispSize d := by
  rw [List.length_append, length_disp, List.length_singleton]
  omega

theorem length_imm1 (v : Imm) : ([a] ++ v.bytes).length = 1 + immSize v := by
  rw [List.length_append, imm_bytes_length]
  rfl

theorem length_imm2 (v : Imm) : ([a, b] ++ v.bytes).length = 2 + immSize v := by
  rw [List.length_append, imm_bytes_length]
  rfl

theorem length_imm3 (v : Imm) : ([a, b, c] ++ v.bytes).length = 3 + immSize v := by
  rw [List.length_append, imm_bytes_length]
  rfl

end

/-! ## The loads of bytes, and of I and R (R202 to R222, R279, R280, R447) -/

section
variable {s : State} {i : Instr} {n : Nat}

theorem hasEffect_setReg8 (r : Reg8) (v : Byte) (hn : (encode i).length = n) :
    HasEffect s i { writes := [s.put8 r v] } ((s.advance n).setReg8 r v) :=
  (hasEffect_advance hn).setReg8 r v (by simp)

theorem hasEffect_setHalf (y : Idx) (x : Half) (v : Byte) (hn : (encode i).length = n) :
    HasEffect s i { writes := [s.putHalf y x v] } ((s.advance n).setHalf y x v) :=
  (hasEffect_advance hn).setHalf y x v (by simp)

theorem hasEffect_writeByte (a : Long) (v : Byte) (hn : (encode i).length = n) :
    HasEffect s i { store := some (a, 1, zext32 v) } ((s.advance n).writeByte a v) :=
  (hasEffect_advance hn).writeByte a v rfl

/-- R214, R217: the flags of a load of A from I or R. -/
theorem interruptFlags_eq (s : State) (v : Byte) : s.interruptFlags v = loadIrFlags s.flags v s.ief2 := by
  simp only [State.interruptFlags, loadIrFlags, negative_eq_msb]
  congr 1

theorem hasEffect_loadIr (v : Byte) (hn : (encode i).length = n) :
    HasEffect s i { writes := [s.put8 .a v], flags := flagsAre (s.interruptFlags v) }
      (((s.advance n).setA v).setFlags (loadIrFlags s.flags v s.ief2)) := by
  rw [interruptFlags_eq]
  exact ((hasEffect_advance hn).setA v (by simp)).setFlags rfl (by simp)

end

theorem answers_loadByte {s : State} {i : Instr} {e : Effect} (h : s.loadByteEffect i = some e) :
    Answers (exec i s) (HasEffect s i e) := by
  cases i with
  | ldRR _ _ | ldRN _ _ | ldRIndHl _ | ldAIndBc | ldAIndDe | ldRHalf _ _ _ | ldctlADsr | ldctlAXsr | ldctlAYsr =>
    cases h
    exact ⟨_, rfl, hasEffect_setReg8 _ _ rfl⟩
  | ldRIdxD _ _ d =>
    cases h
    exact ⟨_, rfl, hasEffect_setReg8 _ _ (length_disp d)⟩
  | ldADirNn nn =>
    cases h
    exact ⟨_, rfl, hasEffect_setReg8 .a _ (length_imm1 nn)⟩
  | ldHalfN _ _ _ | ldHalfS _ _ _ =>
    cases h
    exact ⟨_, rfl, hasEffect_setHalf _ _ _ rfl⟩
  | _ => cases h

theorem answers_storeByte {s : State} {i : Instr} {e : Effect} (h : s.storeByteEffect i = some e) :
    Answers (exec i s) (HasEffect s i e) := by
  cases i with
  | ldIndHlR _ | ldIndHlN _ | ldIndBcA | ldIndDeA =>
    cases h
    exact ⟨_, rfl, hasEffect_writeByte _ _ rfl⟩
  | ldIdxDR _ d _ =>
    cases h
    exact ⟨_, rfl, hasEffect_writeByte _ _ (length_disp d)⟩
  | ldIdxDN _ d n =>
    cases h
    exact ⟨_, rfl, hasEffect_writeByte _ _ (length_disp_end d)⟩
  | ldDirNnA nn =>
    cases h
    exact ⟨_, rfl, hasEffect_writeByte _ _ (length_imm1 nn)⟩
  | _ => cases h

theorem answers_interruptRegister {s : State} {i : Instr} {e : Effect} (h : s.interruptRegisterEffect i = some e) :
    Answers (exec i s) (HasEffect s i e) := by
  cases i with
  | ldAI | ldAR =>
    cases h
    exact ⟨_, rfl, hasEffect_loadIr _ rfl⟩
  | ldIA | ldIHl =>
    cases h
    exact ⟨_, rfl, (hasEffect_advance rfl).setIreg _ (by simp)⟩
  | ldRA =>
    cases h
    exact ⟨_, rfl, (hasEffect_advance rfl).setR _ (by simp)⟩
  | ldHlI =>
    cases h
    exact ⟨_, rfl, (hasEffect_advance rfl).wrPair .hl _ (by simp)⟩
  | _ => cases h

/-- Settles O35: each load is one write of a register, each store one write of a byte. -/
theorem bytesAreLoadedAndStored : Obligations.BytesAreLoadedAndStored := by
  rintro s i e (h | h | h)
  · exact answers_loadByte h
  · exact answers_storeByte h
  · exact answers_interruptRegister h

/-! ## The loads of words and long words (R253 to R278, R434, R435, R445) -/

section
variable {s : State} {i : Instr} {n : Nat}

theorem hasEffect_wrPair (p : Pair) (v : Long) (hn : (encode i).length = n) :
    HasEffect s i { writes := [s.putW p v] } ((s.advance n).wrPair p v) :=
  (hasEffect_advance hn).wrPair p v (by simp)

theorem hasEffect_wrIdx (y : Idx) (v : Long) (hn : (encode i).length = n) :
    HasEffect s i { writes := [s.putIdxW y v] } ((s.advance n).wrIdx y v) :=
  (hasEffect_advance hn).wrIdx y v (by simp)

theorem hasEffect_wrPair4 (p : Pair4) (v : Long) (hn : (encode i).length = n) :
    HasEffect s i { writes := [s.put4W p v] } ((s.advance n).wrPair4 p v) := by
  cases p <;> exact (hasEffect_advance hn).setPair4 _ _ (by simp)

theorem hasEffect_storeW (a v : Long) (hn : (encode i).length = n) :
    HasEffect s i { store := some (a, s.formatBytes, v) } ((s.advance n).storeW a v) :=
  (hasEffect_advance hn).storeW a v rfl rfl (by simp)

end

theorem answers_loadWide {s : State} {i : Instr} {e : Effect} (h : s.loadWideEffect i = some e) :
    Answers (exec i s) (HasEffect s i e) := by
  cases i with
  | ldDdNn _ nn =>
    cases h
    exact ⟨_, rfl, hasEffect_wrPair4 _ _ (length_imm1 nn)⟩
  | ldDdDirNn _ nn =>
    cases h
    exact ⟨_, rfl, hasEffect_wrPair4 _ _ (length_imm2 nn)⟩
  | ldSpHl | ldSpXy _ =>
    cases h
    exact ⟨_, rfl, hasEffect_wrPair4 _ _ rfl⟩
  | ldXyNn _ nn | ldXyDirNn _ nn =>
    cases h
    exact ⟨_, rfl, hasEffect_wrIdx _ _ (length_imm2 nn)⟩
  | ldXyPp _ _ | ldIxIy | ldIyIx | ldXyIndPp _ _ =>
    cases h
    exact ⟨_, rfl, hasEffect_wrIdx _ _ rfl⟩
  | ldYxIdxD _ d | ldXySpD _ d =>
    cases h
    exact ⟨_, rfl, hasEffect_wrIdx _ _ (length_disp_end d)⟩
  | ldHlDirNn nn =>
    cases h
    exact ⟨_, rfl, hasEffect_wrPair _ _ (length_imm1 nn)⟩
  | ldPpIndUu _ _ | ldPpBc _ | ldPpDe _ | ldPpHl _ | ldPpXy _ _ | exts | ldctlHlSr =>
    cases h
    exact ⟨_, rfl, hasEffect_wrPair _ _ rfl⟩
  | ldPpIdxD _ _ d | ldPpSpD _ d =>
    cases h
    exact ⟨_, rfl, hasEffect_wrPair _ _ (length_disp_end d)⟩
  | extsw =>
    cases h
    exact ⟨_, exec_extsw s, hasEffect_setPair s .hl _ rfl⟩
  | _ => cases h

theorem answers_storeWide {s : State} {i : Instr} {e : Effect} (h : s.storeWideEffect i = some e) :
    Answers (exec i s) (HasEffect s i e) := by
  cases i with
  | ldDirNnHl nn =>
    cases h
    exact ⟨_, rfl, hasEffect_storeW _ _ (length_imm1 nn)⟩
  | ldDirNnDd nn _ | ldDirNnXy nn _ | ldIndPpNn _ nn =>
    cases h
    exact ⟨_, rfl, hasEffect_storeW _ _ (length_imm2 nn)⟩
  | ldIndPpUu _ _ | ldIndPpXy _ _ =>
    cases h
    exact ⟨_, rfl, hasEffect_storeW _ _ rfl⟩
  | ldIdxDPp _ d _ | ldIdxDYx _ d | ldSpDPp d _ | ldSpDXy d _ =>
    cases h
    exact ⟨_, rfl, hasEffect_storeW _ _ (length_disp_end d)⟩
  | _ => cases h

/-- Settles O36: each load is one `wr_W`, each store one write in the data format in force. -/
theorem wordsAreLoadedAndStored : Obligations.WordsAreLoadedAndStored := by
  rintro s i e (h | h)
  · exact answers_loadWide h
  · exact answers_storeWide h

/-! ## PUSH and POP (R286 to R294) -/

section
variable {s : State} {i : Instr} {n : Nat}

theorem hasEffect_push (v : Long) (hn : (encode i).length = n) :
    HasEffect s i (s.pushes s.formatBytes v) ((s.advance n).push s.lwEff v) := by
  rw [State.pushes, formatBytes_eq, stackAt]
  exact ((hasEffect_advance hn).setSp _ (by simp)).pushW s.lwEff _ v rfl

theorem hasEffect_dropped (hn : (encode i).length = n) :
    HasEffect s i { writes := [(.sp, s.spUp s.formatBytes)] } ((s.advance n).dropped s.lwEff) := by
  rw [State.spUp, ofNat_formatBytes]
  exact (hasEffect_advance hn).setSp _ (by simp)

/-- Bits 31:8 and 7:0 of SR from one word: its high byte three times, then its low byte. -/
theorem popSrValue_word (w : Word) :
    popSrValue false (zext32 w) =
      zext32 w ||| (zext32 w &&& 0xFF00) <<< 8 ||| (zext32 w &&& 0xFF00) <<< 16 := by
  have hmask : ∀ k, (0xFF00 : Long).getLsbD k = (decide (8 ≤ k) && decide (k < 16)) := by
    intro k
    by_cases hk : k < 32
    · revert k
      decide
    · rw [BitVec.getLsbD_of_ge _ _ (by omega), decide_eq_false (show ¬ k < 16 by omega), Bool.and_false]
  have hpop : popSrValue false (zext32 w) = hi8 (zext32 w) ++ hi8 (zext32 w) ++ hi8 (zext32 w) ++ lo8 (zext32 w) := rfl
  rw [hpop]
  refine BitVec.eq_of_getLsbD_eq fun k hk => ?_
  have hhigh : 16 ≤ k → w.getLsbD k = false := BitVec.getLsbD_of_ge w k
  simp only [hi8, lo8, zext32, BitVec.getLsbD_or, BitVec.getLsbD_and, BitVec.getLsbD_shiftLeft, BitVec.getLsbD_append,
    BitVec.getLsbD_extractLsb', BitVec.getLsbD_setWidth, hmask]
  grind

theorem legalSr_popSrValue (s : State) (a : Long) :
    legalSr s.sr 0xFFFFFF7F (popSrValue s.lwEff (s.readW s.lwEff a)) =
      if s.lwEff then legalSr s.sr 0xFFFFFF7F (s.readW s.lwEff a)
      else legalSr s.sr 0xFFFFFF7F
        (s.readW s.lwEff a ||| (s.readW s.lwEff a &&& 0xFF00) <<< 8 ||| (s.readW s.lwEff a &&& 0xFF00) <<< 16) := by
  cases s.lwEff with
  | true => rfl
  | false =>
    have hword : s.readW false a = zext32 (s.readWord a) := rfl
    rw [hword, popSrValue_word]
    rfl

end

theorem answers_push {s : State} {i : Instr} {e : Effect} (h : s.pushEffect i = some e) :
    Answers (exec i s) (HasEffect s i e) := by
  cases i with
  | pushQq _ | pushAf | pushXy _ | pushSr =>
    cases h
    exact ⟨_, rfl, hasEffect_push _ rfl⟩
  | pushNn nn =>
    cases h
    exact ⟨_, rfl, hasEffect_push _ (length_imm2 nn)⟩
  | _ => cases h

theorem answers_pop {s : State} {i : Instr} {e : Effect} (h : s.popEffect i = some e) :
    Answers (exec i s) (HasEffect s i e) := by
  cases i with
  | popQq _ =>
    cases h
    exact ⟨_, rfl, (hasEffect_dropped rfl).wrPair _ _ (by simp)⟩
  | popXy _ =>
    cases h
    exact ⟨_, rfl, (hasEffect_dropped rfl).wrIdx _ _ (by simp)⟩
  | popAf =>
    cases h
    exact ⟨_, rfl, ((hasEffect_dropped rfl).setA _ (by simp)).setF _ (by simp)⟩
  | popSr =>
    cases h
    rw [← legalSr_popSrValue]
    exact ⟨_, rfl, (hasEffect_dropped rfl).srUpdate _ _ (by simp)⟩
  | _ => cases h

/-- Settles O37. -/
theorem pushesAndPops : Obligations.PushesAndPops := by
  rintro s i e (h | h)
  · exact answers_push h
  · exact answers_pop h

end Sys2Proof.Proofs

namespace Sys2Proof.Proofs

open Sys2Proof Sys2Proof.Machine

/-! ## The place of a write -/

section
variable (s : State)

@[simp] theorem put8_fst (r : Reg8) (v : Byte) : (s.put8 r v).1 = s.locReg8 r := rfl

@[simp] theorem putHalf_fst (y : Idx) (x : Half) (v : Byte) : (s.putHalf y x v).1 = s.locIdx y := rfl

@[simp] theorem putW_fst (p : Pair) (v : Long) : (s.putW p v).1 = s.locPair p := rfl

@[simp] theorem putIdxW_fst (y : Idx) (v : Long) : (s.putIdxW y v).1 = s.locIdx y := rfl

@[simp] theorem putLo_fst (p : Pair) (w : Word) : (s.putLo p w).1 = s.locPair p := rfl

@[simp] theorem putStep_fst (p : Pair) (k : Long) : (s.putStep p k).1 = s.locPair p := rfl

@[simp] theorem put4_fst (p : Pair4) (v : Long) : (s.put4 p v).1 = s.locPair4 p := rfl

end

section
variable {s : State} {i : Instr} {n : Nat}

/-! ## Arithmetic and logic on A (R380 to R395) -/

theorem hasEffect_addA (v : Byte) (x : Bool) (hn : (encode i).length = n) :
    HasEffect s i { writes := [s.put8 .a (exactAdd 4 s.a v x).1], flags := flagsAre (exactAdd 4 s.a v x).2 }
      ((s.advance n).addA v x) := by
  rw [exactAdd_eq]
  exact ((hasEffect_advance hn).setA _ (by simp)).setFlags rfl (by simp)

theorem hasEffect_subA (v : Byte) (x : Bool) (hn : (encode i).length = n) :
    HasEffect s i { writes := [s.put8 .a (exactSub 4 s.a v x).1], flags := flagsAre (exactSub 4 s.a v x).2 }
      ((s.advance n).subA v x) := by
  rw [exactSub_eq]
  exact ((hasEffect_advance hn).setA _ (by simp)).setFlags rfl (by simp)

theorem hasEffect_cpA (v : Byte) (hn : (encode i).length = n) :
    HasEffect s i { flags := flagsAre (exactSub 4 s.a v false).2 } ((s.advance n).cpA v) := by
  rw [exactSub_eq]
  exact hasEffect_setFlags s _ hn

/-- R386 to R388: a logic result in A, with the flags of logic. -/
theorem hasEffect_logicA (h : Bool) (v : Byte) (hn : (encode i).length = n) :
    HasEffect s i { writes := [s.put8 .a v], flags := flagsAre (exactLogic h v) }
      (((s.advance n).setA v).setFlags (logicFlags8 h v)) := by
  rw [exactLogic_byte]
  exact ((hasEffect_advance hn).setA v (by simp)).setFlags rfl (by simp)

theorem hasEffect_logicFlags8 (h : Bool) (v : Byte) (hn : (encode i).length = n) :
    HasEffect s i { flags := flagsAre (exactLogic h v) } ((s.advance n).setFlags (logicFlags8 h v)) := by
  rw [exactLogic_byte]
  exact hasEffect_setFlags s _ hn

end

/-- Settles O41. -/
theorem byteArithmetic : Obligations.ByteArithmetic := by
  intro s i e h
  cases i with
  | addAR _ | addAN _ | addAIndHl | addAHalf _ _ | adcAR _ | adcAN _ | adcAIndHl | adcAHalf _ _ =>
    cases h
    exact ⟨_, rfl, hasEffect_addA _ _ rfl⟩
  | addAIdxD _ d | adcAIdxD _ d =>
    cases h
    exact ⟨_, rfl, hasEffect_addA _ _ (length_disp d)⟩
  | subR _ | subN _ | subIndHl | subHalf _ _ | sbcAR _ | sbcAN _ | sbcAIndHl | sbcAHalf _ _ =>
    cases h
    exact ⟨_, rfl, hasEffect_subA _ _ rfl⟩
  | subIdxD _ d | sbcAIdxD _ d =>
    cases h
    exact ⟨_, rfl, hasEffect_subA _ _ (length_disp d)⟩
  | cpR _ | cpN _ | cpIndHl | cpHalf _ _ =>
    cases h
    exact ⟨_, rfl, hasEffect_cpA _ rfl⟩
  | cpIdxD _ d =>
    cases h
    exact ⟨_, rfl, hasEffect_cpA _ (length_disp d)⟩
  | _ => cases h

/-- Settles O42. -/
theorem byteLogic : Obligations.ByteLogic := by
  intro s i e h
  cases i with
  | andR _ | andN _ | andIndHl | andHalf _ _ | xorR _ | xorN _ | xorIndHl | xorHalf _ _ | orR _ | orN _ | orIndHl
  | orHalf _ _ =>
    cases h
    exact ⟨_, rfl, hasEffect_logicA _ _ rfl⟩
  | andIdxD _ d | xorIdxD _ d | orIdxD _ d =>
    cases h
    exact ⟨_, rfl, hasEffect_logicA _ _ (length_disp d)⟩
  | tstR _ | tstN _ | tstIndHl =>
    cases h
    exact ⟨_, rfl, hasEffect_logicFlags8 _ _ rfl⟩
  | _ => cases h

/-! ## INC and DEC of bytes (R390 to R392) -/

theorem exactAdd_one (v : Byte) : (exactAdd 4 v 1 false).1 = v + 1 := by
  rw [exactAdd_eq]
  exact BitVec.add_zero _

theorem exactSub_one (v : Byte) : (exactSub 4 v 1 false).1 = v - 1 := by
  rw [exactSub_eq]
  exact BitVec.sub_zero _

section
variable {s : State} {i : Instr} {n : Nat}

theorem hasEffect_incReg8 (r : Reg8) (v : Byte) (hn : (encode i).length = n) :
    HasEffect s i { writes := [s.put8 r (exactAdd 4 v 1 false).1], flags := flagsAre (s.keepC (exactAdd 4 v 1 false).2) }
      (((s.advance n).setReg8 r (v + 1)).setFlags (incFlags s.flags v)) := by
  rw [exactAdd_one, incFlags_eq]
  exact (hasEffect_setReg8 r _ hn).setFlags rfl (by simp)

theorem hasEffect_decReg8 (r : Reg8) (v : Byte) (hn : (encode i).length = n) :
    HasEffect s i { writes := [s.put8 r (exactSub 4 v 1 false).1], flags := flagsAre (s.keepC (exactSub 4 v 1 false).2) }
      (((s.advance n).setReg8 r (v - 1)).setFlags (decFlags s.flags v)) := by
  rw [exactSub_one, decFlags_eq]
  exact (hasEffect_setReg8 r _ hn).setFlags rfl (by simp)

theorem hasEffect_incHalf (y : Idx) (x : Half) (v : Byte) (hn : (encode i).length = n) :
    HasEffect s i
      { writes := [s.putHalf y x (exactAdd 4 v 1 false).1], flags := flagsAre (s.keepC (exactAdd 4 v 1 false).2) }
      (((s.advance n).setHalf y x (v + 1)).setFlags (incFlags s.flags v)) := by
  rw [exactAdd_one, incFlags_eq]
  exact (hasEffect_setHalf y x _ hn).setFlags rfl (by simp)

theorem hasEffect_decHalf (y : Idx) (x : Half) (v : Byte) (hn : (encode i).length = n) :
    HasEffect s i
      { writes := [s.putHalf y x (exactSub 4 v 1 false).1], flags := flagsAre (s.keepC (exactSub 4 v 1 false).2) }
      (((s.advance n).setHalf y x (v - 1)).setFlags (decFlags s.flags v)) := by
  rw [exactSub_one, decFlags_eq]
  exact (hasEffect_setHalf y x _ hn).setFlags rfl (by simp)

theorem hasEffect_incMem (a : Long) (hn : (encode i).length = n) :
    HasEffect s i
      { flags := flagsAre (s.keepC (exactAdd 4 (s.readByte a) 1 false).2)
        store := some (a, 1, zext32 (exactAdd 4 (s.readByte a) 1 false).1) }
      ((s.advance n).incMem a) := by
  rw [exactAdd_one, incFlags_eq]
  exact (hasEffect_writeByte a _ hn).setFlags rfl (by simp)

theorem hasEffect_decMem (a : Long) (hn : (encode i).length = n) :
    HasEffect s i
      { flags := flagsAre (s.keepC (exactSub 4 (s.readByte a) 1 false).2)
        store := some (a, 1, zext32 (exactSub 4 (s.readByte a) 1 false).1) }
      ((s.advance n).decMem a) := by
  rw [exactSub_one, decFlags_eq]
  exact (hasEffect_writeByte a _ hn).setFlags rfl (by simp)

end

/-- Settles O43. -/
theorem byteCounts : Obligations.ByteCounts := by
  intro s i e h
  cases i with
  | incR _ =>
    cases h
    exact ⟨_, rfl, hasEffect_incReg8 _ _ rfl⟩
  | decR _ =>
    cases h
    exact ⟨_, rfl, hasEffect_decReg8 _ _ rfl⟩
  | incHalf _ _ =>
    cases h
    exact ⟨_, rfl, hasEffect_incHalf _ _ _ rfl⟩
  | decHalf _ _ =>
    cases h
    exact ⟨_, rfl, hasEffect_decHalf _ _ _ rfl⟩
  | incIndHl =>
    cases h
    exact ⟨_, rfl, hasEffect_incMem _ rfl⟩
  | decIndHl =>
    cases h
    exact ⟨_, rfl, hasEffect_decMem _ rfl⟩
  | incIdxD _ d =>
    cases h
    exact ⟨_, rfl, hasEffect_incMem _ (length_disp d)⟩
  | decIdxD _ d =>
    cases h
    exact ⟨_, rfl, hasEffect_decMem _ (length_disp d)⟩
  | _ => cases h

/-! ## DAA, complement, negation and the carry (R421 to R425, R431, R432) -/

theorem ofInt_add_byte (v w : Byte) : BitVec.ofInt 8 ((v.toNat : Int) + w.toNat) = v + w := by
  apply BitVec.eq_of_toInt_eq
  rw [BitVec.toInt_ofInt, BitVec.toInt_add, BitVec.toInt_eq_toNat_bmod, BitVec.toInt_eq_toNat_bmod]
  simp

theorem ofInt_sub_byte (v w : Byte) : BitVec.ofInt 8 ((v.toNat : Int) - w.toNat) = v - w := by
  apply BitVec.eq_of_toInt_eq
  rw [BitVec.toInt_ofInt, BitVec.toInt_sub, BitVec.toInt_eq_toNat_bmod, BitVec.toInt_eq_toNat_bmod]
  simp

/-- R421: the correction of DAA as a number. -/
theorem daaCorrection_toNat (v : Byte) (fl : Flags) :
    ((daaCorrection v fl).toNat : Int) =
      (if fl.h || decide (9 < v.toNat % 16) then 6 else 0) + (if fl.c || decide (0x99 < v.toNat) then 0x60 else 0) := by
  simp only [daaCorrection, gt_iff_lt]
  cases fl.h || decide (9 < v.toNat % 16) <;> cases fl.c || decide (0x99 < v.toNat) <;> rfl

/-- R421: DAA in exact arithmetic. -/
theorem decimalAdjust_eq (v : Byte) (fl : Flags) : decimalAdjust v fl = (daaResult v fl, daaFlags v fl) := by
  have hval : BitVec.ofInt 8
      (if fl.n then (v.toNat : Int) - (daaCorrection v fl).toNat else (v.toNat : Int) + (daaCorrection v fl).toNat) =
        daaResult v fl := by
    rw [daaResult]
    cases fl.n with
    | true => exact ofInt_sub_byte v _
    | false => exact ofInt_add_byte v _
  rw [daaCorrection_toNat] at hval
  simp only [decimalAdjust, exactLogic_byte, logicFlags8, daaFlags, Bool.decide_or, Bool.decide_and, Bool.decide_eq_true,
    gt_iff_lt]
  rw [hval]

/-- R422: the flags of NEG are those of an exact subtraction from 0. -/
theorem exactSub_zero_left (v : Byte) : exactSub 4 0 v false = (0 - v, negFlags v) := by
  rw [exactSub_eq]
  revert v
  decide

theorem exactSub_word_zero_left (v : Word) : (exactSub 12 0 v false).1 = 0 - v := by
  rw [exactSub_eq]
  exact BitVec.sub_zero _

/-- Settles O44. -/
theorem accumulatorAdjusts : Obligations.AccumulatorAdjusts := by
  intro s i e h
  cases i with
  | daa =>
    cases h
    rw [decimalAdjust_eq]
    exact ⟨_, rfl, ((hasEffect_advance rfl).setA _ (by simp)).setFlags rfl (by simp)⟩
  | cpl =>
    cases h
    exact ⟨_, rfl, ((hasEffect_advance rfl).setA _ (by simp)).setFlags rfl (by simp)⟩
  | neg =>
    cases h
    rw [exactSub_zero_left]
    exact ⟨_, rfl, ((hasEffect_advance rfl).setA _ (by simp)).setFlags rfl (by simp)⟩
  | ccf | scf =>
    cases h
    exact ⟨_, rfl, hasEffect_setFlags s _ rfl⟩
  | cplw =>
    cases h
    exact ⟨_, rfl, ((hasEffect_advance rfl).setPairLo .hl _ (by simp)).setFlags rfl (by simp)⟩
  | negw =>
    cases h
    rw [negwFlags_eq, exactSub_word_zero_left]
    exact ⟨_, rfl, ((hasEffect_advance rfl).setPairLo .hl _ (by simp)).setFlags rfl (by simp)⟩
  | _ => cases h

end Sys2Proof.Proofs

namespace Sys2Proof.Machine

open Sys2Proof Sys2Proof.Proofs

/-! ## Writes of the internal I/O registers (R109) -/

/-- Which addresses name a register does not depend on what the registers hold. -/
theorem ioGet_isSome (x y : IntIo) (a : Byte) : (x.get a).isSome = (y.get a).isSome := by
  unfold IntIo.get
  split <;> rfl

/-- U9, log 28: a write to an address without a register is dropped. -/
theorem ioPut_unnamed {x : IntIo} {a : Byte} (v : Byte) (h : (x.get a).isSome = false) : x.put a v = x := by
  unfold IntIo.put
  split
  case h_27 => rfl
  all_goals cases h

@[simp] theorem mem_ioWrites {s : State} {a v : Byte} {l : Loc} :
    l ∈ (s.ioWrites a v).map Prod.fst ↔ l = .io a ∧ (s.io.get a).isSome = true := by
  rw [State.ioWrites]
  split <;> simp_all

theorem HasEffect.ioWrite {s t : State} {i : Instr} {e : Effect} (h : HasEffect s i e t) (a v : Byte)
    (hl : e.FreshAt s (.io a)) :
    HasEffect s i { e with writes := e.writes ++ s.ioWrites a v } (t.ioWrite a v) := by
  have hio : (t.io.get a).isSome = (s.io.get a).isSome := ioGet_isSome _ _ a
  rw [State.ioWrites]
  cases hsome : (s.io.get a).isSome with
  | true =>
    refine h.write ⟨fun _ => rfl, rfl, rfl, rfl, rfl, rfl, rfl, rfl⟩ (fun m => ?_) hl.place hl.flags
    rw [look_ioWrite, hio, hsome]
    simp
  | false =>
    rw [State.ioWrite, ioPut_unnamed v (hio.trans hsome), if_neg Bool.false_ne_true, List.append_nil]
    exact h

/-! ## The interrupt enables -/

theorem HasEffect.disable {s t : State} {i : Instr} {e : Effect} (h : HasEffect s i e t) (hsr : e.FreshAt s .sr)
    (hl : Loc.ief2 ∉ e.places s) :
    HasEffect s i { e with writes := e.writes ++ [(.sr, withSr s.sr 0x20 false)] ++ [(.ief2, 0)] } t.disable := by
  have hout := h.srUpdate 0x20 0 hsr
  rw [maskedBits_zero] at hout
  exact hout.setIef2 false (by simpa using hl) hsr.flags

theorem HasEffect.enable {s t : State} {i : Instr} {e : Effect} (h : HasEffect s i e t) (hsr : e.FreshAt s .sr)
    (hl : Loc.ief2 ∉ e.places s) (hs : Loc.eiShadow ∉ e.places s) :
    HasEffect s i
      { e with writes := e.writes ++ [(.sr, withSr s.sr 0x20 true)] ++ [(.ief2, 1)] ++ [(.eiShadow, 1)] } t.enable := by
  have hout := h.srUpdate 0x20 0x20 hsr
  rw [maskedBits_self] at hout
  exact (hout.setIef2 true (by simpa using hl) hsr.flags).setEiShadow true (by simpa using hs) hsr.flags

end Sys2Proof.Machine

namespace Sys2Proof.Proofs

open Sys2Proof Sys2Proof.Machine

/-! ## The instructions that control the processor (R426 to R430, R436 to R440) -/

theorem ier_blocked (x n : Byte) : (x &&& ~~~maskOf n) &&& ioMask 0x17 = x &&& ~~~n &&& 0x0F := by
  refine BitVec.eq_of_getLsbD_eq fun k hk => ?_
  have hmask : ioMask 0x17 = 0x0F := rfl
  simp only [maskOf, hmask, BitVec.getLsbD_and, BitVec.getLsbD_not]
  grind

theorem ier_unblocked (x n : Byte) : (x ||| maskOf n) &&& ioMask 0x17 = (x ||| n) &&& 0x0F := by
  refine BitVec.eq_of_getLsbD_eq fun k hk => ?_
  have hmask : ioMask 0x17 = 0x0F := rfl
  simp only [maskOf, hmask, BitVec.getLsbD_and, BitVec.getLsbD_or]
  grind

section
variable {s : State} {i : Instr} {n : Nat}

theorem hasEffect_blockInputs (v : Byte) (hn : (encode i).length = n) :
    HasEffect s i { writes := [(.io 0x17, zext32 (s.io.ier &&& ~~~v &&& 0x0F))] } ((s.advance n).blockInputs v) := by
  rw [← ier_blocked]
  exact (hasEffect_advance hn).ioWrite 0x17 _ (by simp)

theorem hasEffect_unblockInputs (v : Byte) (hn : (encode i).length = n) :
    HasEffect s i { writes := [(.io 0x17, zext32 ((s.io.ier ||| v) &&& 0x0F))] } ((s.advance n).unblockInputs v) := by
  rw [← ier_unblocked]
  exact (hasEffect_advance hn).ioWrite 0x17 _ (by simp)

theorem hasEffect_srUpdate (mask v : Long) (hn : (encode i).length = n) :
    HasEffect s i { writes := [(.sr, maskedBits mask s.sr v)] } ((s.advance n).srUpdate mask v) :=
  (hasEffect_advance hn).srUpdate mask v (by simp)

end

/-- Settles O45. -/
theorem processorControl : Obligations.ProcessorControl := by
  intro s i e h
  cases i with
  | nop =>
    cases h
    exact ⟨_, rfl, hasEffect_advance rfl⟩
  | halt =>
    cases h
    exact ⟨_, rfl, (hasEffect_advance rfl).setHalted true (by simp)⟩
  | slp =>
    cases h
    rw [show exec .slp s = execSlp s from rfl, execSlp]
    cases s.stby with
    | true => exact ⟨_, rfl, (hasEffect_advance rfl).setStandby true (by simp)⟩
    | false => exact ⟨_, rfl, (hasEffect_advance rfl).setHalted true (by simp)⟩
  | di =>
    cases h
    exact ⟨_, rfl, (hasEffect_advance rfl).disable (by simp) (by simp)⟩
  | ei =>
    cases h
    exact ⟨_, rfl, (hasEffect_advance rfl).enable (by simp) (by simp) (by simp)⟩
  | im0 | im1 | im2 | im3 =>
    cases h
    exact ⟨_, rfl, hasEffect_srUpdate 0x18 _ rfl⟩
  | diN n =>
    cases h
    rw [show exec (.diN n) s = execDiN n s from rfl, execDiN]
    cases n.getLsbD 0 with
    | true => exact ⟨_, rfl, (hasEffect_blockInputs n rfl).disable (by simp) (by simp)⟩
    | false => exact ⟨_, rfl, hasEffect_blockInputs n rfl⟩
  | eiN n =>
    cases h
    rw [show exec (.eiN n) s = execEiN n s from rfl, execEiN]
    cases n.getLsbD 0 with
    | true => exact ⟨_, rfl, (hasEffect_unblockInputs n rfl).enable (by simp) (by simp) (by simp)⟩
    | false => exact ⟨_, rfl, hasEffect_unblockInputs n rfl⟩
  | _ => cases h

/-! ## The instructions on the select register (R442 to R455) -/

theorem byte_thrice : ∀ v : Byte, zext32 v * 0x1010100 = v ++ v ++ v ++ 0#8 := by
  decide

theorem byte_at_8 : ∀ v : Byte, zext32 v <<< 8 = 0#16 ++ v ++ 0#8 := by
  decide

theorem byte_at_16 : ∀ v : Byte, zext32 v <<< 16 = 0#8 ++ v ++ 0#16 := by
  decide

theorem byte_at_24 : ∀ v : Byte, zext32 v <<< 24 = v ++ 0#24 := by
  decide

theorem byte_thrice_or (v w : Byte) : zext32 v * 0x1010100 ||| zext32 w = v ++ v ++ v ++ w := by
  rw [byte_thrice]
  refine BitVec.eq_of_getLsbD_eq fun k hk => ?_
  have hhigh : 8 ≤ k → w.getLsbD k = false := BitVec.getLsbD_of_ge w k
  simp only [zext32, BitVec.getLsbD_or, BitVec.getLsbD_append, BitVec.getLsbD_setWidth, BitVec.getLsbD_zero]
  grind

/-- R450: what LDCTL SR,HL hands to SR. -/
theorem srFromHl_eq (long : Bool) (v : Long) :
    srFromHl long v = if long then v else zext32 (hi8 v) * 0x1010100 ||| zext32 (lo8 v) := by
  rw [byte_thrice_or]
  rfl

section
variable {s : State} {i : Instr} {n : Nat}

/-- R444: a write of SR is legalised. -/
theorem hasEffect_srWrite (mask v : Long) (hn : (encode i).length = n) :
    HasEffect s i { writes := [(.sr, legalSr s.sr mask v)] } ((s.advance n).srWrite mask v) :=
  (hasEffect_advance hn).srUpdate _ v (by simp)

end

/-- Settles O46. -/
theorem selectRegisterWrites : Obligations.SelectRegisterWrites := by
  intro s i e h
  cases i with
  | ldctlSrA | ldctlSrN _ =>
    cases h
    rw [byte_thrice]
    exact ⟨_, rfl, hasEffect_srWrite _ _ rfl⟩
  | ldctlSrHl =>
    cases h
    rw [← srFromHl_eq]
    exact ⟨_, rfl, hasEffect_srWrite _ _ rfl⟩
  | ldctlDsrA | ldctlDsrN _ =>
    cases h
    rw [byte_at_8]
    exact ⟨_, rfl, hasEffect_srWrite _ _ rfl⟩
  | ldctlXsrA | ldctlXsrN _ =>
    cases h
    rw [byte_at_16]
    exact ⟨_, rfl, hasEffect_srWrite _ _ rfl⟩
  | ldctlYsrA | ldctlYsrN _ =>
    cases h
    rw [byte_at_24]
    exact ⟨_, rfl, hasEffect_srWrite _ _ rfl⟩
  | setcXm | setcLck | setcLw =>
    cases h
    exact ⟨_, rfl, hasEffect_srBits_true s _ rfl⟩
  | rescLck | rescLw =>
    cases h
    exact ⟨_, rfl, hasEffect_srBits_false s _ rfl⟩
  | _ => cases h

end Sys2Proof.Proofs

namespace Sys2Proof.Proofs

open Sys2Proof Sys2Proof.Machine

/-! ## Arithmetic whose width follows the mode (R484, R487 to R492, R501, R502) -/

section
variable {s t : State} {i : Instr} {n : Nat} {e : Effect}

theorem hasEffect_addHlAw (v : Long) (hn : (encode i).length = n) :
    HasEffect s i { writes := [(s.locPair .hl, s.modeSum (s.pair .hl) v)], flags := s.modeAdd (s.pair .hl) v }
      ((s.advance n).addHlAw v) :=
  (hasEffect_setPair s .hl _ hn).setFlags (addressAddFlags_ok s _ v _ rfl) (by simp)

theorem hasEffect_subHlAw (v : Long) (hn : (encode i).length = n) :
    HasEffect s i { writes := [(s.locPair .hl, s.modeDiff (s.pair .hl) v)], flags := s.modeSub (s.pair .hl) v }
      ((s.advance n).subHlAw v) := by
  rw [← subAw_eq]
  exact (hasEffect_setPair s .hl _ hn).setFlags (addressSubFlags_ok s _ v _ rfl) (by simp)

@[simp] theorem locPair4_sp : s.locPair4 .sp = .sp := rfl

theorem hasEffect_addSpAw (v : Long) (hn : (encode i).length = n) :
    HasEffect s i { writes := [s.put4 .sp (s.modeSum s.sp v)], flags := s.modeAdd s.sp v }
      (((s.advance n).setSp (s.addAw s.sp v)).setFlags (s.addressAddFlags s.sp v)) :=
  ((hasEffect_advance hn).setSp _ (by simp)).setFlags (addressAddFlags_ok s _ v _ rfl) (by simp)

theorem hasEffect_subSpAw (v : Long) (hn : (encode i).length = n) :
    HasEffect s i { writes := [s.put4 .sp (s.modeDiff s.sp v)], flags := s.modeSub s.sp v }
      (((s.advance n).setSp (s.subAw s.sp v)).setFlags (s.addressSubFlags s.sp v)) := by
  rw [← subAw_eq]
  exact ((hasEffect_advance hn).setSp _ (by simp)).setFlags (addressSubFlags_ok s _ v _ rfl) (by simp)

theorem hasEffect_setPair4 (p : Pair4) (v : Long) (hn : (encode i).length = n) :
    HasEffect s i { writes := [s.put4 p v] } ((s.advance n).setPair4 p v) :=
  (hasEffect_advance hn).setPair4 p v (by simp)

end

/-- Settles O47. -/
theorem addressArithmetic : Obligations.AddressArithmetic := by
  intro s i e h
  cases i with
  | addHlDd _ =>
    cases h
    exact ⟨_, rfl, hasEffect_addHlAw _ rfl⟩
  | addHlDirNn nn =>
    cases h
    exact ⟨_, rfl, hasEffect_addHlAw _ (length_imm2 nn)⟩
  | subHlDirNn nn =>
    cases h
    exact ⟨_, rfl, hasEffect_subHlAw _ (length_imm2 nn)⟩
  | addXyTt y _ =>
    cases h
    exact ⟨_, rfl, (hasEffect_setIdx s y _ rfl).setFlags (addressAddFlags_ok s _ _ _ rfl) (by simp)⟩
  | addSpNn nn =>
    cases h
    exact ⟨_, rfl, hasEffect_addSpAw _ (length_imm2 nn)⟩
  | subSpNn nn =>
    cases h
    exact ⟨_, rfl, hasEffect_subSpAw _ (length_imm2 nn)⟩
  | incDd _ =>
    cases h
    exact ⟨_, rfl, hasEffect_setPair4 _ _ rfl⟩
  | decDd _ =>
    cases h
    rw [← subAw_eq]
    exact ⟨_, rfl, hasEffect_setPair4 _ _ rfl⟩
  | incXy y =>
    cases h
    exact ⟨_, rfl, hasEffect_setIdx s y _ rfl⟩
  | decXy y =>
    cases h
    rw [← subAw_eq]
    exact ⟨_, rfl, hasEffect_setIdx s y _ rfl⟩
  | _ => cases h

/-! ## 16-bit arithmetic and logic on HL (R485, R486, R493 to R500) -/

section
variable {s : State} {i : Instr} {n : Nat}

theorem hasEffect_addHl (v : Word) (x : Bool) (hn : (encode i).length = n) :
    HasEffect s i
      { writes := [s.putLo .hl (exactAdd 12 (lo16 (s.pair .hl)) v x).1]
        flags := flagsAre (exactAdd 12 (lo16 (s.pair .hl)) v x).2 }
      ((s.advance n).addHl v x) := by
  rw [exactAdd_eq]
  exact ((hasEffect_advance hn).setPairLo .hl _ (by simp)).setFlags rfl (by simp)

theorem hasEffect_subHl (v : Word) (x : Bool) (hn : (encode i).length = n) :
    HasEffect s i
      { writes := [s.putLo .hl (exactSub 12 (lo16 (s.pair .hl)) v x).1]
        flags := flagsAre (exactSub 12 (lo16 (s.pair .hl)) v x).2 }
      ((s.advance n).subHl v x) := by
  rw [exactSub_eq]
  exact ((hasEffect_advance hn).setPairLo .hl _ (by simp)).setFlags rfl (by simp)

theorem hasEffect_cpHl (v : Word) (hn : (encode i).length = n) :
    HasEffect s i { flags := flagsAre (exactSub 12 (lo16 (s.pair .hl)) v false).2 } ((s.advance n).cpHl v) := by
  rw [exactSub_eq]
  exact hasEffect_setFlags s _ hn

/-- R497 to R499: a logic result in HL, with the flags of logic. -/
theorem hasEffect_logicHl (h : Bool) (v : Word) (hn : (encode i).length = n) :
    HasEffect s i { writes := [s.putLo .hl v], flags := flagsAre (exactLogic h v) }
      (((s.advance n).setPairLo .hl v).setFlags (logicFlags16 h v)) := by
  rw [exactLogic_word]
  exact ((hasEffect_advance hn).setPairLo .hl v (by simp)).setFlags rfl (by simp)

end

/-- Settles O48. -/
theorem wordArithmetic : Obligations.WordArithmetic := by
  intro s i e h
  cases i with
  | adcHlDd _ | addwHlPp _ | addwHlXy _ | adcwHlPp _ | adcwHlXy _ =>
    cases h
    exact ⟨_, rfl, hasEffect_addHl _ _ rfl⟩
  | addwHlNn nn | adcwHlNn nn =>
    cases h
    exact ⟨_, rfl, hasEffect_addHl _ _ (length_imm2 nn)⟩
  | addwHlIdxD _ d | adcwHlIdxD _ d =>
    cases h
    exact ⟨_, rfl, hasEffect_addHl _ _ (length_disp d)⟩
  | sbcHlDd _ | subwHlPp _ | subwHlXy _ | sbcwHlPp _ | sbcwHlXy _ =>
    cases h
    exact ⟨_, rfl, hasEffect_subHl _ _ rfl⟩
  | subwHlNn nn | sbcwHlNn nn =>
    cases h
    exact ⟨_, rfl, hasEffect_subHl _ _ (length_imm2 nn)⟩
  | subwHlIdxD _ d | sbcwHlIdxD _ d =>
    cases h
    exact ⟨_, rfl, hasEffect_subHl _ _ (length_disp d)⟩
  | cpwHlPp _ | cpwHlXy _ =>
    cases h
    exact ⟨_, rfl, hasEffect_cpHl _ rfl⟩
  | cpwHlNn nn =>
    cases h
    exact ⟨_, rfl, hasEffect_cpHl _ (length_imm2 nn)⟩
  | cpwHlIdxD _ d =>
    cases h
    exact ⟨_, rfl, hasEffect_cpHl _ (length_disp d)⟩
  | _ => cases h

/-- Settles O49. -/
theorem wordLogic : Obligations.WordLogic := by
  intro s i e h
  cases i with
  | andwHlPp _ | andwHlXy _ | xorwHlPp _ | xorwHlXy _ | orwHlPp _ | orwHlXy _ =>
    cases h
    exact ⟨_, rfl, hasEffect_logicHl _ _ rfl⟩
  | andwHlNn nn | xorwHlNn nn | orwHlNn nn =>
    cases h
    exact ⟨_, rfl, hasEffect_logicHl _ _ (length_imm2 nn)⟩
  | andwHlIdxD _ d | xorwHlIdxD _ d | orwHlIdxD _ d =>
    cases h
    exact ⟨_, rfl, hasEffect_logicHl _ _ (length_disp d)⟩
  | _ => cases h

/-! ## Multiplication and division (R510 to R513) -/

/-- D32: the flags of a multiplication are as `productFlags` asks. -/
theorem multFlags_ok (s : State) (v : Long) (x : Bool) {P : Flags → Prop} (h : s.productFlags v x = some P) :
    P (s.multFlags v x) := by
  obtain rfl := Option.some.inj h
  refine ⟨(negative_eq_msb v).symm, rfl, rfl, rfl, rfl, fun hrule => ?_⟩
  rw [State.multFlags, hrule]

/-- R510: the product of the two low bytes of a long word. -/
theorem byteProduct_lo16 (v : Long) : byteProduct (lo16 v) = BitVec.ofNat 16 ((hi8 v).toNat * (lo8 v).toNat) := by
  have hhi : wordHi (lo16 v) = hi8 v := BitVec.extractLsb'_extractLsb'_of_le (by decide)
  have hlo : wordLo (lo16 v) = lo8 v := BitVec.extractLsb'_extractLsb'_of_le (by decide)
  rw [byteProduct_eq, hhi, hlo]

section
variable {s : State} {i : Instr} {n : Nat}

theorem hasEffect_multw (v : Word) (hn : (encode i).length = n) :
    HasEffect s i (s.signedMultiply v) ((s.advance n).multw v) := by
  simp only [State.signedMultiply]
  rw [← signedProduct_eq, ← signedProduct_carry]
  exact (hasEffect_setPair s .hl _ hn).setFlags (multFlags_ok s _ _ rfl) (by simp)

theorem hasEffect_multuw (v : Word) (hn : (encode i).length = n) :
    HasEffect s i (s.unsignedMultiply v) ((s.advance n).multuw v) := by
  simp only [State.unsignedMultiply]
  rw [← unsignedProduct_eq, ← unsignedProduct_carry]
  exact (hasEffect_setPair s .hl _ hn).setFlags (multFlags_ok s _ _ rfl) (by simp)

/-- R513: HL and Z are what `quotient` answers; P/V says that the machine does not divide. -/
theorem hasEffect_divuw (v : Word) (hn : (encode i).length = n) :
    HasEffect s i
      { writes := [(s.locPair .hl, (s.quotient (s.pair .hl) v).1)]
        flags := flagsAre { s.flags with s := false, z := (s.quotient (s.pair .hl) v).2, pv := !dividable (s.pair .hl) v } }
      ((s.advance n).divuw v) :=
  (hasEffect_setPair s .hl _ hn).setFlags rfl (by simp)

theorem hasEffect_unsignedDivide (v : Word) (hv : s.divides v = true) (hn : (encode i).length = n) :
    HasEffect s i (s.unsignedDivide v) ((s.advance n).divuw v) := by
  have hdiv := hasEffect_divuw (s := s) v hn
  rw [quotient_eq s v hv, dividable_of_divides s v hv] at hdiv
  exact hdiv

end

/-- Settles O50. -/
theorem multiplications : Obligations.Multiplications := by
  intro s i e h
  cases i with
  | mltDd dd =>
    cases h
    rw [← byteProduct_lo16]
    exact ⟨_, rfl, hasEffect_setPair4 _ _ rfl⟩
  | multwHlWop _ =>
    cases h
    exact ⟨_, rfl, hasEffect_multw _ rfl⟩
  | multwHlNn nn =>
    cases h
    exact ⟨_, rfl, hasEffect_multw _ (length_imm3 nn)⟩
  | multwHlIdxD _ d =>
    cases h
    exact ⟨_, rfl, hasEffect_multw _ (length_disp_end d)⟩
  | multuwHlWop _ =>
    cases h
    exact ⟨_, rfl, hasEffect_multuw _ rfl⟩
  | multuwHlNn nn =>
    cases h
    exact ⟨_, rfl, hasEffect_multuw _ (length_imm3 nn)⟩
  | multuwHlIdxD _ d =>
    cases h
    exact ⟨_, rfl, hasEffect_multuw _ (length_disp_end d)⟩
  | _ => cases h

/-- R513: each division reads its divisor and divides HL by it. -/
theorem answers_divuw {s : State} {i : Instr} {v : Word} (h : s.divisor i = some v) :
    ∃ n, (encode i).length = n ∧ exec i s = .next ((s.advance n).divuw v) := by
  cases i with
  | divuwHlWop _ =>
    cases h
    exact ⟨3, rfl, rfl⟩
  | divuwHlNn nn =>
    cases h
    exact ⟨_, length_imm3 nn, rfl⟩
  | divuwHlIdxD _ d =>
    cases h
    exact ⟨_, length_disp_end d, rfl⟩
  | _ => cases h

/-- R513: the table of the divisions in terms of the divisor. -/
theorem divideEffect_some {s : State} {i : Instr} {e : Effect} (h : s.divideEffect i = some e) :
    ∃ v, s.divisor i = some v ∧ s.divides v = true ∧ s.unsignedDivide v = e := by
  cases i with
  | divuwHlWop _ | divuwHlNn _ | divuwHlIdxD _ _ =>
    obtain ⟨hdiv, he⟩ := Option.ite_none_right_eq_some.1 h
    exact ⟨_, rfl, hdiv, Option.some.inj he⟩
  | _ => cases h

/-- Settles O51. -/
theorem divisions : Obligations.Divisions := by
  intro s i e h
  obtain ⟨v, hv, hdiv, rfl⟩ := divideEffect_some h
  obtain ⟨n, hn, hexec⟩ := answers_divuw hv
  exact ⟨_, hexec, hasEffect_unsignedDivide v hdiv hn⟩

theorem dividable_eq_divides (s : State) (v : Word) : dividable (s.pair .hl) v = s.divides v := by
  have hle : (s.pair .hl).toNat / v.toNat ≤ 0xFFFF ↔ (s.pair .hl).toNat / v.toNat < 2 ^ 16 := Nat.lt_succ_iff.symm
  rw [dividable, State.divides, Bool.eq_iff_iff, Bool.and_eq_true, bne_iff_ne, decide_eq_true_eq, decide_eq_true_eq, hle,
    ne_eq, BitVec.toNat_eq]
  rfl

/-- Settles O25: where the machine does not divide, `quotient` answers HL and Z as `DIV_CORNER` says. -/
theorem divisionCorner : Obligations.DivisionCorner := by
  intro s i v hv hdiv
  obtain ⟨n, hn, hexec⟩ := answers_divuw hv
  have hnot : dividable (s.pair .hl) v = false := (dividable_eq_divides s v).trans hdiv
  have heff := hasEffect_divuw (s := s) v hn
  rw [hnot] at heff
  refine ⟨_, hexec, _, _, fun hcorner => ?_, heff⟩
  simp [State.quotient, hnot, hcorner]

end Sys2Proof.Proofs

namespace Sys2Proof.Proofs

open Sys2Proof Sys2Proof.Machine

/-! ## What each rotate and shift makes of its operand, in exact arithmetic (R543 to R553) -/

/-- R552, R566: an arithmetic shift by one repeats the sign. -/
theorem sshiftRight_one {n : Nat} (v : BitVec (n + 1)) : v.sshiftRight 1 = shiftedInHigh v v.msb := by
  rw [shiftedInHigh_eq]
  refine BitVec.eq_of_getLsbD_eq fun k hk => ?_
  have htop : (BitVec.ofNat (n + 1) (carryNat v.msb)).getLsbD (k - n) = (decide (k - n = 0) && v.msb) := by
    cases v.msb <;> simp [carryNat, BitVec.getLsbD_one]
  rw [BitVec.getLsbD_sshiftRight, BitVec.getLsbD_or, BitVec.getLsbD_ushiftRight, BitVec.getLsbD_shiftLeft, htop]
  have hout : n + 1 ≤ 1 + k → v.getLsbD (1 + k) = false := BitVec.getLsbD_of_ge v (1 + k)
  grind

theorem shiftedInLow_false {n : Nat} (v : BitVec n) : shiftedInLow v false = v <<< 1 := by
  rw [shiftedInLow_eq]
  exact BitVec.or_zero

theorem shiftedInHigh_false {n : Nat} (v : BitVec (n + 1)) : shiftedInHigh v false = v >>> 1 := by
  rw [shiftedInHigh_eq]
  simp [carryNat]

section
variable {n : Nat}

@[simp] theorem shiftRlc_eq (v : BitVec n) : shiftRlc v = ⟨v.rotateLeft 1, v.msb⟩ := rfl

@[simp] theorem shiftRrc_eq (v : BitVec n) : shiftRrc v = ⟨v.rotateRight 1, v.getLsbD 0⟩ := rfl

@[simp] theorem shiftRl_eq (x : Bool) (v : BitVec n) : shiftRl x v = ⟨shiftedInLow v x, v.msb⟩ := by
  rw [shiftedInLow_eq]
  rfl

@[simp] theorem shiftSla_eq (v : BitVec n) : shiftSla v = ⟨shiftedInLow v false, v.msb⟩ := by
  rw [shiftedInLow_false]
  rfl

@[simp] theorem shiftRr_eq (x : Bool) (v : BitVec (n + 1)) : shiftRr x v = ⟨shiftedInHigh v x, v.getLsbD 0⟩ := by
  rw [shiftedInHigh_eq]
  rfl

@[simp] theorem shiftSra_eq (v : BitVec (n + 1)) : shiftSra v = ⟨shiftedInHigh v v.msb, v.getLsbD 0⟩ := by
  rw [← sshiftRight_one]
  rfl

@[simp] theorem shiftSrl_eq (v : BitVec (n + 1)) : shiftSrl v = ⟨shiftedInHigh v false, v.getLsbD 0⟩ := by
  rw [shiftedInHigh_false]
  rfl

end

/-! ## 8-bit rotates and shifts (R543 to R555) -/

section
variable {s : State} {i : Instr} {n : Nat}

theorem hasEffect_shiftReg (r : Reg8) {x : Shifted 8} {v : Byte} {out : Bool} (hn : (encode i).length = n)
    (hx : x = ⟨v, out⟩) :
    HasEffect s i { writes := [s.put8 r v], flags := flagsAre (exactShift v out) } ((s.advance n).shiftReg r x) := by
  subst hx
  rw [exactShift_byte]
  exact (hasEffect_setReg8 r v hn).setFlags rfl (by simp)

theorem hasEffect_shiftMem (a : Long) {x : Shifted 8} {v : Byte} {out : Bool} (hn : (encode i).length = n)
    (hx : x = ⟨v, out⟩) :
    HasEffect s i { flags := flagsAre (exactShift v out), store := some (a, 1, zext32 v) } ((s.advance n).shiftMem a x) := by
  subst hx
  rw [exactShift_byte]
  exact (hasEffect_writeByte a v hn).setFlags rfl (by simp)

theorem hasEffect_rotateA {x : Shifted 8} {v : Byte} {out : Bool} (hn : (encode i).length = n)
    (hx : x = ⟨v, out⟩) :
    HasEffect s i { writes := [s.put8 .a v], flags := flagsAre { s.flags with h := false, n := false, c := out } }
      ((s.advance n).rotateA x) := by
  subst hx
  exact ((hasEffect_advance hn).setA v (by simp)).setFlags rfl (by simp)

end

theorem answers_rotate {s : State} {i : Instr} {e : Effect} (h : s.rotateEffect i = some e) :
    Answers (exec i s) (HasEffect s i e) := by
  cases i with
  | rlcR _ | rrcR _ | rlR _ | rrR _ | slaR _ | sraR _ | srlR _ =>
    cases h
    exact ⟨_, rfl, hasEffect_shiftReg _ rfl (by simp)⟩
  | rlcIndHl | rrcIndHl | rlIndHl | rrIndHl | slaIndHl | sraIndHl | srlIndHl =>
    cases h
    exact ⟨_, rfl, hasEffect_shiftMem _ rfl (by simp)⟩
  | rlcIdxD _ d | rrcIdxD _ d | rlIdxD _ d | rrIdxD _ d | slaIdxD _ d | sraIdxD _ d | srlIdxD _ d =>
    cases h
    exact ⟨_, rfl, hasEffect_shiftMem _ (length_disp_end d) (by simp)⟩
  | rlca | rrca | rla | rra =>
    cases h
    exact ⟨_, rfl, hasEffect_rotateA rfl (by simp)⟩
  | _ => cases h

/-! ### RLD and RRD (R554, R555) -/

theorem high_digit_kept : ∀ v : Byte, v &&& 0xF0 = digitHi v ++ 0#4 := by
  decide

theorem low_digit_kept : ∀ v : Byte, v &&& 0x0F = 0#4 ++ digitLo v := by
  decide

theorem high_digit_down : ∀ v : Byte, v >>> 4 = 0#4 ++ digitHi v := by
  decide

theorem low_digit_up : ∀ v : Byte, v <<< 4 = digitLo v ++ 0#4 := by
  decide

theorem digits_or : ∀ x y : BitVec 4, (x ++ 0#4) ||| (0#4 ++ y) = x ++ y := by
  decide

theorem hasEffect_rotateDigits {s : State} {i : Instr} {n : Nat} (m v : Byte) (hn : (encode i).length = n) :
    HasEffect s i
      { writes := [s.put8 .a v]
        flags := flagsAre (s.keepC (exactLogic false v))
        store := some (s.pair .hl, 1, zext32 m) }
      ((s.advance n).rotateDigits m v) := by
  rw [exactLogic_byte]
  exact ((hasEffect_writeByte _ m hn).setA v (by simp)).setFlags rfl (by simp)

theorem answers_digit {s : State} {i : Instr} {e : Effect} (h : s.digitEffect i = some e) :
    Answers (exec i s) (HasEffect s i e) := by
  cases i with
  | rld | rrd =>
    cases h
    simp only [high_digit_kept, low_digit_kept, high_digit_down, low_digit_up, digits_or]
    exact ⟨_, rfl, hasEffect_rotateDigits _ _ rfl⟩
  | _ => cases h

/-- Settles O52. -/
theorem byteRotatesAndShifts : Obligations.ByteRotatesAndShifts := by
  rintro s i e (h | h)
  · exact answers_rotate h
  · exact answers_digit h

/-! ## Word rotates and shifts (R560 to R567) -/

section
variable {s : State} {i : Instr} {n : Nat}

theorem hasEffect_shiftMemW (a : Long) {x : Shifted 16} {v : Word} {out : Bool} (hn : (encode i).length = n)
    (hx : x = ⟨v, out⟩) :
    HasEffect s i { flags := flagsAre (exactShift v out), store := some (a, 2, zext32 v) } ((s.advance n).shiftMemW a x) := by
  subst hx
  rw [exactShift_word]
  exact ((hasEffect_advance hn).writeWord a v rfl).setFlags rfl (by simp)

/-- R560: the result goes back where the operand came from. -/
theorem hasEffect_shiftWop (w : WordOp) {x : Shifted 16} {v : Word} {out : Bool} (hn : (encode i).length = n)
    (hx : x = ⟨v, out⟩) :
    HasEffect s i (s.turns w v out) ((s.advance n).shiftWop w x) := by
  subst hx
  rw [State.turns, exactShift_word]
  cases w with
  | indHl => exact ((hasEffect_advance hn).writeWord _ v rfl).setFlags rfl (by simp)
  | bc => exact ((hasEffect_advance hn).setPairLo .bc v (by simp)).setFlags rfl (by simp)
  | de => exact ((hasEffect_advance hn).setPairLo .de v (by simp)).setFlags rfl (by simp)
  | hl => exact ((hasEffect_advance hn).setPairLo .hl v (by simp)).setFlags rfl (by simp)
  | ix => exact (hasEffect_setIdx s .ix _ hn).setFlags rfl (by simp)
  | iy => exact (hasEffect_setIdx s .iy _ hn).setFlags rfl (by simp)

end

/-- Settles O53. -/
theorem wordRotatesAndShifts : Obligations.WordRotatesAndShifts := by
  intro s i e h
  cases i with
  | rlcwWop _ | rrcwWop _ | rlwWop _ | rrwWop _ | slawWop _ | srawWop _ | srlwWop _ =>
    cases h
    exact ⟨_, rfl, hasEffect_shiftWop _ rfl (by simp)⟩
  | rlcwIdxD _ d | rrcwIdxD _ d | rlwIdxD _ d | rrwIdxD _ d | slawIdxD _ d | srawIdxD _ d | srlwIdxD _ d =>
    cases h
    exact ⟨_, rfl, hasEffect_shiftMemW _ (length_disp_end d) (by simp)⟩
  | _ => cases h

/-! ## BIT, SET and RES (R580 to R583) -/

section
variable {s : State} {i : Instr} {n : Nat}

/-- R580: S and P/V are open, and no claim is made of them. -/
theorem hasEffect_testBit (v : Byte) (k : BitVec 3) (hn : (encode i).length = n) :
    HasEffect s i { flags := s.bitTestFlags (v.getLsbD k.toNat) } ((s.advance n).testBit v k) :=
  (hasEffect_advance hn).setFlags ⟨rfl, rfl, rfl, rfl⟩ (by simp)

end

/-- Settles O54. -/
theorem bitInstructions : Obligations.BitInstructions := by
  intro s i e h
  cases i with
  | bitBR _ _ | bitBIndHl _ =>
    cases h
    exact ⟨_, rfl, hasEffect_testBit _ _ rfl⟩
  | bitBIdxD _ _ d =>
    cases h
    exact ⟨_, rfl, hasEffect_testBit _ _ (length_disp_end d)⟩
  | setBR _ _ | resBR _ _ =>
    cases h
    exact ⟨_, rfl, hasEffect_setReg8 _ _ rfl⟩
  | setBIndHl _ | resBIndHl _ =>
    cases h
    exact ⟨_, rfl, hasEffect_writeByte _ _ rfl⟩
  | setBIdxD _ _ d | resBIdxD _ _ d =>
    cases h
    exact ⟨_, rfl, hasEffect_writeByte _ _ (length_disp_end d)⟩
  | _ => cases h

end Sys2Proof.Proofs

namespace Sys2Proof.Machine

open Sys2Proof Sys2Proof.Proofs

/-- R328: the primed twin of an 8-bit register lies in A' or in a primed pair. -/
theorem setReg8Alt_of_ne (t : State) {r : Reg8} (hr : r ≠ .a) (v : Byte) :
    t.setReg8Alt r v = t.setPairAlt (pairOf r) (withByte r (t.pairAlt (pairOf r)) v) := by
  cases r with
  | a => exact absurd rfl hr
  | _ => rfl

theorem HasEffect.setReg8Alt {s t : State} {i : Instr} {e : Effect} (h : HasEffect s i e t) (r : Reg8) (v : Byte)
    (hl : e.FreshAt s (s.put8Alt r v).1) :
    HasEffect s i { e with writes := e.writes ++ [s.put8Alt r v] } (t.setReg8Alt r v) := by
  by_cases hr : r = .a
  · subst hr
    exact h.setAAlt v hl
  · rw [State.put8Alt, if_neg hr] at hl ⊢
    rw [setReg8Alt_of_ne t hr, h.pairAlt_eq hl.sr hl.place]
    exact h.setPairAlt _ _ hl

end Sys2Proof.Machine

namespace Sys2Proof.Proofs

open Sys2Proof Sys2Proof.Machine

/-! ## The set switches and the exchanges of values (R321 to R339) -/

theorem answers_switch {s : State} {i : Instr} {e : Effect} (h : s.switchEffect i = some e) :
    Answers (exec i s) (HasEffect s i e) := by
  cases i with
  | exx | exAfAfAlt | exall | exxx | exxy =>
    cases h
    exact ⟨_, rfl, hasEffect_srToggle s _ rfl⟩
  | _ => cases h

/-- R338, R339: the halves exchanged, as two shifts. -/
theorem swapHalves_eq_shifts (v : Long) : v <<< 16 ||| v >>> 16 = swapHalves v :=
  (swapHalves_eq_rotateLeft v).symm

section
variable {s : State} {i : Instr} {n : Nat}

theorem hasEffect_swapPairs {p q : Pair} (hpq : q ≠ p) (hn : (encode i).length = n) :
    HasEffect s i { writes := [s.putW p (s.pair q), s.putW q (s.pair p)] } ((s.advance n).swapPairs p q) :=
  ((hasEffect_advance hn).wrPair p (s.pair q) (by simp)).wrPair q (s.pair p) (by simp [hpq])

theorem hasEffect_swapPairAlt (p : Pair) (hn : (encode i).length = n) :
    HasEffect s i { writes := [s.putW p (s.pairAlt p), (s.locPairAlt p, wrW s.lwEff (s.pairAlt p) (s.pair p))] }
      ((s.advance n).swapPairAlt p) :=
  ((hasEffect_advance hn).wrPair p (s.pairAlt p) (by simp)).wrPairAlt p (s.pair p) (by simp)

theorem hasEffect_swapIdxAlt (y : Idx) (hn : (encode i).length = n) :
    HasEffect s i { writes := [s.putIdxW y (s.idxAlt y), (s.locIdxAlt y, wrW s.lwEff (s.idxAlt y) (s.idx y))] }
      ((s.advance n).swapIdxAlt y) :=
  ((hasEffect_advance hn).wrIdx y (s.idxAlt y) (by simp)).wrIdxAlt y (s.idx y) (by simp)

theorem hasEffect_swapPairIdx (p : Pair) (y : Idx) (hn : (encode i).length = n) :
    HasEffect s i { writes := [s.putW p (s.idx y), s.putIdxW y (s.pair p)] } ((s.advance n).swapPairIdx p y) :=
  ((hasEffect_advance hn).wrPair p (s.idx y) (by simp)).wrIdx y (s.pair p) (by simp)

theorem locReg8_of_ne {r : Reg8} (hr : r ≠ .a) : s.locReg8 r = s.locPair (pairOf r) := by
  cases r with
  | a => exact absurd rfl hr
  | _ => rfl

/-- R327: EX A,r; with r = A the two writes agree. -/
theorem hasEffect_exAR (r : Reg8) (hn : (encode i).length = n) :
    HasEffect s i { writes := [s.put8 .a (s.reg8 r), s.put8 r s.a] } (((s.advance n).setA (s.reg8 r)).setReg8 r s.a) := by
  have hA := (hasEffect_advance (s := s) hn).setA (s.reg8 r) (by simp)
  by_cases hr : r = .a
  · subst hr
    refine hA.write_agreeing ⟨fun _ => rfl, rfl, rfl, rfl, rfl, rfl, rfl, rfl⟩ (look_setA _ s.a) (by simp) ?_ rfl
    rintro w hw -
    obtain rfl := List.mem_singleton.1 hw
    rfl
  · exact hA.setReg8 r s.a (by simp [locReg8_of_ne hr])

theorem hasEffect_exRRAlt (r : Reg8) (hn : (encode i).length = n) :
    HasEffect s i { writes := [s.put8 r (s.reg8Alt r), s.put8Alt r (s.reg8 r)] }
      (((s.advance n).setReg8 r (s.reg8Alt r)).setReg8Alt r (s.reg8 r)) := by
  refine (hasEffect_setReg8 r (s.reg8Alt r) hn).setReg8Alt r (s.reg8 r) ?_
  by_cases hr : r = .a
  · subst hr
    simp [State.put8Alt, show s.locReg8 .a = s.locA from rfl]
  · simp [State.put8Alt, hr, locReg8_of_ne hr]

end

theorem answers_exchange {s : State} {i : Instr} {e : Effect} (h : s.exchangeEffect i = some e) :
    Answers (exec i s) (HasEffect s i e) := by
  cases i with
  | exDeHl | exBcDe | exBcHl =>
    cases h
    exact ⟨_, rfl, hasEffect_swapPairs (by decide) rfl⟩
  | exBcIx | exBcIy | exDeIx | exDeIy | exHlIx | exHlIy =>
    cases h
    exact ⟨_, rfl, hasEffect_swapPairIdx _ _ rfl⟩
  | exIxIy =>
    cases h
    exact ⟨_, rfl, ((hasEffect_advance rfl).wrIdx .ix (s.idx .iy) (by simp)).wrIdx .iy (s.idx .ix) (by simp)⟩
  | exBcBcAlt | exDeDeAlt | exHlHlAlt =>
    cases h
    exact ⟨_, rfl, hasEffect_swapPairAlt _ rfl⟩
  | exIxIxAlt | exIyIyAlt =>
    cases h
    exact ⟨_, rfl, hasEffect_swapIdxAlt _ rfl⟩
  | exAR r =>
    cases h
    exact ⟨_, rfl, hasEffect_exAR r rfl⟩
  | exRRAlt r =>
    cases h
    exact ⟨_, rfl, hasEffect_exRRAlt r rfl⟩
  | exAIndHl =>
    cases h
    exact ⟨_, rfl, (hasEffect_writeByte _ s.a rfl).setA _ (by simp)⟩
  | exIndSpHl =>
    cases h
    exact ⟨_, rfl, (hasEffect_storeW s.sp _ rfl).wrPair .hl _ (by simp)⟩
  | exIndSpXy y =>
    cases h
    exact ⟨_, rfl, (hasEffect_storeW s.sp _ rfl).wrIdx y _ (by simp)⟩
  | swapPp p =>
    cases h
    rw [swapHalves_eq_shifts]
    exact ⟨_, rfl, hasEffect_setPair s p _ rfl⟩
  | swapXy y =>
    cases h
    rw [swapHalves_eq_shifts]
    exact ⟨_, rfl, hasEffect_setIdx s y _ rfl⟩
  | _ => cases h

/-- Settles O38. -/
theorem exchangesAndSetSwitches : Obligations.ExchangesAndSetSwitches := by
  rintro s i e (h | h)
  · exact answers_switch h
  · exact answers_exchange h

/-! ## Block transfers and searches (R340 to R352) -/

/-- A count is not used up exactly when it was not the step. -/
theorem count_left (x m : Word) : (x - m != 0) = decide (x ≠ m) := by
  rw [Bool.eq_iff_iff, bne_iff_ne, decide_eq_true_eq]
  exact sub_ne_zero

theorem transferFlags_eq (s : State) (m : Word) : transferFlags s.flags (s.count - m) = s.moveFlags m := by
  rw [transferFlags, count_left]
  rfl

theorem searchFlags_eq (s : State) :
    searchFlags s.flags s.a (s.readByte (s.pair .hl)) (s.count - 1) = s.searchFlags := by
  rw [searchFlags, count_left, State.searchFlags, exactSub_eq]
  simp [subFlags, subC, carryNat]

theorem searchAgain_eq (s : State) : s.searchAgain = decide (s.count ≠ 1 ∧ s.a ≠ s.readByte (s.pair .hl)) := by
  rw [State.searchAgain, count_left, Bool.decide_and]
  simp only [bne, beq_eq_decide, decide_not, ne_eq]

section
variable {s : State} {i : Instr} {n : Nat} {g : Option Long} {p : Long}

/-- R341: one byte moved, PC wherever it goes. -/
theorem hasEffect_moveByte (k : Long) (hg : g.getD (s.after i) = p) :
    HasEffect s i
      { writes := [s.putStep .de k, s.putStep .hl k, s.putLo .bc (s.count - 1)]
        flags := flagsAre (s.moveFlags 1)
        store := some (s.pair .de, 1, zext32 (s.readByte (s.pair .hl)))
        goto := g }
      ((atPc s p).moveByte k) := by
  rw [← transferFlags_eq]
  have hstore := (hasEffect_atPc hg).writeByte (s.pair .de) (s.readByte (s.pair .hl)) rfl
  exact (((hstore.stepPair .de k (by simp)).stepPair .hl k (by simp)).setPairLo .bc _ (by simp)).setFlags rfl (by simp)

/-- R345: one byte compared. -/
theorem hasEffect_searchByte (k : Long) (hg : g.getD (s.after i) = p) :
    HasEffect s i
      { writes := [s.putStep .hl k, s.putLo .bc (s.count - 1)], flags := flagsAre s.searchFlags, goto := g }
      ((atPc s p).searchByte k) := by
  rw [← searchFlags_eq]
  exact (((hasEffect_atPc hg).stepPair .hl k (by simp)).setPairLo .bc _ (by simp)).setFlags rfl (by simp)

/-- R343, R344: the byte transfer that stays at itself while the count goes on. -/
theorem hasEffect_moveByte_repeatIf (k : Long) (hn : (encode i).length = n) :
    HasEffect s i
      { writes := [s.putStep .de k, s.putStep .hl k, s.putLo .bc (s.count - 1)]
        flags := flagsAre (s.moveFlags 1)
        store := some (s.pair .de, 1, zext32 (s.readByte (s.pair .hl)))
        goto := s.goesOn i (decide (s.count ≠ 1)) }
      ((s.moveByte k).repeatIf (s.count - 1 != 0) n) := by
  have hstep := hasEffect_moveByte (s := s) (i := i) (g := some s.pc) k rfl
  rw [count_left]
  exact hstep.repeatIf rfl hn _ (by simp) (by simp)

/-- R346, R348: the byte search that stays at itself while the count goes on and nothing is found. -/
theorem hasEffect_searchByte_repeatIf (k : Long) (hn : (encode i).length = n) :
    HasEffect s i
      { writes := [s.putStep .hl k, s.putLo .bc (s.count - 1)]
        flags := flagsAre s.searchFlags
        goto := s.goesOn i (decide (s.count ≠ 1 ∧ s.a ≠ s.readByte (s.pair .hl))) }
      ((s.searchByte k).repeatIf s.searchAgain n) := by
  have hstep := hasEffect_searchByte (s := s) (i := i) (g := some s.pc) k rfl
  rw [searchAgain_eq]
  exact hstep.repeatIf rfl hn _ (by simp) (by simp)

end

theorem answers_transfer {s : State} {i : Instr} {e : Effect} (h : s.transferEffect i = some e) :
    Answers (exec i s) (HasEffect s i e) := by
  cases i with
  | ldi | ldd =>
    cases h
    exact ⟨_, rfl, hasEffect_moveByte _ rfl⟩
  | ldir | lddr =>
    cases h
    exact ⟨_, rfl, hasEffect_moveByte_repeatIf _ rfl⟩
  | _ => cases h

theorem answers_search {s : State} {i : Instr} {e : Effect} (h : s.searchEffect i = some e) :
    Answers (exec i s) (HasEffect s i e) := by
  cases i with
  | cpi | cpd =>
    cases h
    exact ⟨_, rfl, hasEffect_searchByte _ rfl⟩
  | cpir | cpdr =>
    cases h
    exact ⟨_, rfl, hasEffect_searchByte_repeatIf _ rfl⟩
  | _ => cases h

/-- Settles O39: the repeating forms are the single step, PC staying while it goes on. -/
theorem blockTransfersAndSearches : Obligations.BlockTransfersAndSearches := by
  rintro s i e (h | h)
  · exact answers_transfer h
  · exact answers_search h

/-! ### Word transfers, at even and at odd addresses (R349 to R352, D4) -/

/-- R349: the signed step of a word transfer. -/
def wordStep (s : State) (down : Bool) : Long := if down then -bytesOf s.lwEff else bytesOf s.lwEff

/-- D4: copying bytes changes memory, the bus and the fetch window, and no register. -/
theorem copyBytes_shape (s : State) (dst src : Long) (k : Nat) :
    ∃ m bus w, s.copyBytes dst src k = { s with mem := m, busLog := bus, written := w } := by
  induction k with
  | zero => exact ⟨_, _, _, rfl⟩
  | succ k ih =>
    obtain ⟨m, bus, w, hk⟩ := ih
    rw [State.copyBytes, hk]
    exact ⟨_, _, _, rfl⟩

theorem copyBytes_atPc (s : State) (p dst src : Long) (k : Nat) :
    (atPc s p).copyBytes dst src k = atPc (s.copyBytes dst src k) p := by
  induction k with
  | zero => rfl
  | succ k ih =>
    rw [State.copyBytes, ih]
    rfl

section
variable {s : State} {i : Instr} {n : Nat} {g : Option Long} {p : Long}

/-- R349: what a word transfer does once its datum is moved. -/
theorem hasEffect_stepsWord {c u : State} {e : Effect} (h : HasEffect c i e u) (k : Long) (m : Word)
    (hw : e.writes = []) (hf : e.flags = none) (hd : e.ddir = none) :
    HasEffect c i
      { e with
        writes := [c.putStep .de k, c.putStep .hl k, c.putLo .bc (c.count - m)]
        flags := flagsAre (c.moveFlags m) }
      ((((u.stepPair .de k).stepPair .hl k).setPairLo .bc (c.count - m)).setFlags (transferFlags c.flags (c.count - m))) := by
  obtain ⟨writes, flags, store, goto, ddir, events, reads⟩ := e
  subst hw hf hd
  rw [← transferFlags_eq]
  exact (((h.stepPair .de k (by simp)).stepPair .hl k (by simp)).setPairLo .bc _ (by simp)).setFlags rfl (by simp)

/-- R349: one word moved between even addresses, PC wherever it goes. -/
theorem hasEffect_moveWord (down : Bool) (heven : s.wordAligned = true) (hg : g.getD (s.after i) = p) :
    HasEffect s i
      { writes := [s.putStep .de (wordStep s down), s.putStep .hl (wordStep s down), s.putLo .bc s.wordCount]
        flags := flagsAre (s.moveFlags (lo16 (bytesOf s.lwEff)))
        store := some (s.pair .de, s.formatBytes, s.readW s.lwEff (s.pair .hl))
        goto := g }
      ((atPc s p).moveWord down) := by
  have hdatum : (atPc s p).moveDatum = (atPc s p).storeW (s.pair .de) (s.readW s.lwEff (s.pair .hl)) := if_pos heven
  rw [State.moveWord, hdatum]
  exact hasEffect_stepsWord ((hasEffect_atPc hg).storeW _ _ rfl rfl (by simp)) _ _ rfl rfl rfl

/-- D4: one word moved byte by byte: what follows the copying is as between even addresses. -/
theorem hasEffect_moveWord_odd (down : Bool) (hodd : s.wordAligned = false) (hg : g.getD (s.after i) = p) :
    HasEffect (s.copyBytes (s.pair .de) (s.pair .hl) s.formatBytes) i
      { writes := [s.putStep .de (wordStep s down), s.putStep .hl (wordStep s down), s.putLo .bc s.wordCount]
        flags := flagsAre (s.moveFlags (lo16 (bytesOf s.lwEff)))
        goto := g }
      ((atPc s p).moveWord down) := by
  have hdatum : (atPc s p).moveDatum = atPc (s.copyBytes (s.pair .de) (s.pair .hl) s.formatBytes) p := by
    rw [← copyBytes_atPc]
    exact if_neg (Bool.not_eq_true _ ▸ hodd)
  obtain ⟨m, bus, w, hshape⟩ := copyBytes_shape s (s.pair .de) (s.pair .hl) s.formatBytes
  rw [State.moveWord, hdatum, hshape]
  have hstart : HasEffect { s with mem := m, busLog := bus, written := w } i { goto := g }
      (atPc { s with mem := m, busLog := bus, written := w } p) := hasEffect_atPc hg
  exact hasEffect_stepsWord hstart (wordStep s down) (lo16 (bytesOf s.lwEff)) rfl rfl rfl

/-- R351, R352: the word transfers that stay at themselves while the count goes on. -/
theorem hasEffect_moveWord_repeatIf (down : Bool) (heven : s.wordAligned = true) (hn : (encode i).length = n) :
    HasEffect s i
      { writes := [s.putStep .de (wordStep s down), s.putStep .hl (wordStep s down), s.putLo .bc s.wordCount]
        flags := flagsAre (s.moveFlags (lo16 (bytesOf s.lwEff)))
        store := some (s.pair .de, s.formatBytes, s.readW s.lwEff (s.pair .hl))
        goto := s.goesOn i (decide (s.count ≠ lo16 (bytesOf s.lwEff))) }
      ((s.moveWord down).repeatIf (s.wordCount != 0) n) := by
  have hstep := hasEffect_moveWord (i := i) (g := some s.pc) down heven rfl
  rw [State.wordCount, count_left]
  exact hstep.repeatIf rfl hn _ (by simp) (by simp)

theorem hasEffect_moveWord_odd_repeatIf (down : Bool) (hodd : s.wordAligned = false) (hn : (encode i).length = n) :
    HasEffect (s.copyBytes (s.pair .de) (s.pair .hl) s.formatBytes) i
      { writes := [s.putStep .de (wordStep s down), s.putStep .hl (wordStep s down), s.putLo .bc s.wordCount]
        flags := flagsAre (s.moveFlags (lo16 (bytesOf s.lwEff)))
        goto := s.goesOn i (decide (s.count ≠ lo16 (bytesOf s.lwEff))) }
      ((s.moveWord down).repeatIf (s.wordCount != 0) n) := by
  have hstep := hasEffect_moveWord_odd (i := i) (g := some s.pc) down hodd rfl
  rw [State.wordCount, count_left]
  obtain ⟨m, bus, w, hshape⟩ := copyBytes_shape s (s.pair .de) (s.pair .hl) s.formatBytes
  rw [hshape] at hstep ⊢
  exact hstep.repeatIf rfl hn _ (by simp) (by simp)

end

theorem unlessOdd_even {s : State} (h : s.wordAligned = true) (t : State) : s.unlessOdd t = .next t := if_pos h

/-- D4: what a word transfer between odd addresses answers. -/
theorem unlessOdd_odd {s : State} (h : s.wordAligned = false) (t : State) :
    s.unlessOdd t =
      match s.params.oddBlockWord with
      | .refuse => .refused .oddBlockWord
      | .fault => .fault .oddBlockWord
      | .bytewise => .next t :=
  if_neg (Bool.not_eq_true _ ▸ h)

/-- R349 to R352: each word transfer is stopped at odd addresses by one test; this is where it then leads. -/
theorem answers_wordTransfer {s : State} {i : Instr} {e : Effect} (h : s.wordTransferEffect i = some e) :
    ∃ t, exec i s = s.unlessOdd t ∧ (s.wordAligned = true → HasEffect s i e t) ∧
      (s.wordAligned = false →
        HasEffect (s.copyBytes (s.pair .de) (s.pair .hl) s.formatBytes) i { e with store := none } t) := by
  cases i with
  | ldiw =>
    cases h
    rw [ofNat_formatBytes, ofNat16_formatBytes]
    exact ⟨_, rfl, fun heven => hasEffect_moveWord false heven rfl, fun hodd => hasEffect_moveWord_odd false hodd rfl⟩
  | lddw =>
    cases h
    rw [ofNat_formatBytes, ofNat16_formatBytes]
    exact ⟨_, rfl, fun heven => hasEffect_moveWord true heven rfl, fun hodd => hasEffect_moveWord_odd true hodd rfl⟩
  | ldirw =>
    cases h
    rw [ofNat_formatBytes, ofNat16_formatBytes]
    exact ⟨_, rfl, fun heven => hasEffect_moveWord_repeatIf false heven rfl,
      fun hodd => hasEffect_moveWord_odd_repeatIf false hodd rfl⟩
  | lddrw =>
    cases h
    rw [ofNat_formatBytes, ofNat16_formatBytes]
    exact ⟨_, rfl, fun heven => hasEffect_moveWord_repeatIf true heven rfl,
      fun hodd => hasEffect_moveWord_odd_repeatIf true hodd rfl⟩
  | _ => cases h

/-- Settles O40. -/
theorem wordBlockTransfers : Obligations.WordBlockTransfers := by
  intro s i e heven h
  obtain ⟨t, hexec, hword, -⟩ := answers_wordTransfer h
  exact ⟨t, hexec.trans (unlessOdd_even heven t), hword heven⟩

/-- Settles O24: the bytes are copied first, and the rest of the transfer runs on the memory they leave. -/
theorem oddWordTransfers : Obligations.OddWordTransfers := by
  intro s i e h hodd
  obtain ⟨t, hexec, -, hbytes⟩ := answers_wordTransfer h
  rw [hexec, unlessOdd_odd hodd]
  refine ⟨fun hp => ?_, fun hp => ?_, fun hp => ?_⟩
  · rw [hp]
  · rw [hp]
  · rw [hp]
    exact ⟨t, rfl, hbytes hodd⟩

end Sys2Proof.Proofs

namespace Sys2Proof.Machine

open Sys2Proof Sys2Proof.Proofs

section
variable {s t : State} {i : Instr} {e : Effect}

/-- The writes of an effect are a set. -/
theorem HasEffect.perm {ws : List (Loc × Long)} (h : HasEffect s i e t) (hperm : e.writes.Perm ws) :
    HasEffect s i { e with writes := ws } t := by
  obtain ⟨hpc, hw, hu, hf, hrest⟩ := h
  refine ⟨hpc, fun w hw' => hw w (hperm.mem_iff.2 hw'), fun l hl => hu l ?_, hf, hrest⟩
  rw [mem_places] at hl ⊢
  rw [(hperm.map Prod.fst).mem_iff]
  exact hl

/-- PC at the next instruction is where an effect leads that names no target. -/
theorem HasEffect.goesPast {n : Nat} (h : HasEffect s i e t) (hg : e.goto = some s.pc) (hn : (encode i).length = n)
    (hsr : Loc.sr ∉ e.places s) (hpcw : Loc.pc ∉ e.writes.map Prod.fst) :
    HasEffect s i { e with goto := none } (t.advance n) := by
  have hpast : HasEffect s i { e with goto := s.goesOn i false } (t.advance n) := h.repeatIf hg hn false hsr hpcw
  exact hpast

@[simp] theorem locReg8_b : s.locReg8 .b = s.locPair .bc := rfl

@[simp] theorem locReg8_c : s.locReg8 .c = s.locPair .bc := rfl

@[simp] theorem locReg8_a : s.locReg8 .a = s.locA := rfl

end

end Sys2Proof.Machine

namespace Sys2Proof.Proofs

open Sys2Proof Sys2Proof.Machine

section
variable {s : State} {i : Instr} {n : Nat}

/-! ## Jumps (R600 to R618) -/

theorem hasEffect_setPc (v : Long) : HasEffect s i { goto := some (ringed s.xm v) } (s.setPc v) :=
  (hasEffect_atPc (g := some s.pc) rfl).setPc v (by simp) (by simp)

theorem hasEffect_jumpIf (take : Bool) (v : Long) (hn : (encode i).length = n) :
    HasEffect s i (if take = true then { goto := some (ringed s.xm v) } else {}) (s.jumpIf take n v) := by
  cases take with
  | true => exact hasEffect_setPc v
  | false => exact hasEffect_advance hn

/-- R607: B counts down, and the jump is taken unless B is then 0. -/
theorem hasEffect_djnz (v : Long) (hn : (encode i).length = n) :
    HasEffect s i
      { writes := [s.put8 .b (s.reg8 .b - 1)], goto := if s.reg8 .b = 1 then none else some (ringed s.xm v) }
      ((s.setReg8 .b s.countB).jumpIf (s.countB != 0) n v) := by
  have hcount : (s.countB != 0) = decide (s.reg8 .b ≠ 1) := by
    rw [State.countB, Bool.eq_iff_iff, bne_iff_ne, decide_eq_true_eq]
    exact sub_ne_zero
  have hb : HasEffect s i { writes := [s.put8 .b (s.reg8 .b - 1)], goto := some s.pc } (s.setReg8 .b s.countB) :=
    (hasEffect_atPc (g := some s.pc) rfl).setReg8 .b _ (by simp)
  rw [hcount, State.jumpIf]
  by_cases h1 : s.reg8 .b = 1
  · rw [if_pos h1, if_neg fun hne => absurd h1 (of_decide_eq_true hne)]
    exact hb.goesPast rfl hn (by simp) (by simp)
  · rw [if_neg h1, if_pos (decide_eq_true h1)]
    exact hb.setPc v (by simp) (by simp)

/-! ## Calls and returns (R621 to R634) -/

theorem hasEffect_callIf (take : Bool) (ret target : Long) (hn : (encode i).length = n) (hret : s.nextPc n = ret) :
    HasEffect s i (if take = true then s.calls ret target else {}) (s.callIf take n target) := by
  cases take with
  | true =>
    rw [State.callIf, if_pos rfl, hret]
    exact hasEffect_call s i ret rfl
  | false => exact hasEffect_advance hn

theorem hasEffect_popPc : HasEffect s i s.returns s.popPc := by
  rw [State.returns, State.spUp, ofNat_modeBytes]
  exact ((hasEffect_atPc (g := some s.pc) rfl).setSp _ (by simp)).setPc (s.readW s.xm s.sp) (by simp) (by simp)

end

/-- Settles O55. -/
theorem jumps : Obligations.Jumps := by
  intro s i e h
  cases i with
  | jpNn _ | jpIndHl | jpIndXy _ | jrE8 _ | jrE16 _ | jrE24 _ =>
    cases h
    exact ⟨_, rfl, hasEffect_setPc _⟩
  | jpCcNn _ nn =>
    cases h
    exact ⟨_, rfl, hasEffect_jumpIf _ _ (length_imm1 nn)⟩
  | jrCcE8 _ _ | jrCcE16 _ _ | jrCcE24 _ _ =>
    cases h
    exact ⟨_, rfl, hasEffect_jumpIf _ _ rfl⟩
  | djnzE8 _ | djnzE16 _ | djnzE24 _ =>
    cases h
    exact ⟨_, rfl, hasEffect_djnz _ rfl⟩
  | _ => cases h

/-- R628: the target p is 8 times its code. -/
theorem restart_times_8 : ∀ k : BitVec 3, zext32 k * 8 = zext32 (k ++ 0#3) := by
  decide

theorem answers_call {s : State} {i : Instr} {e : Effect} (h : s.callEffect i = some e) :
    Answers (exec i s) (HasEffect s i e) := by
  cases i with
  | callNn nn =>
    cases h
    rw [after_eq (i := .callNn nn) s (length_imm1 nn)]
    exact ⟨_, rfl, hasEffect_call s _ _ rfl⟩
  | callCcNn cc nn =>
    cases h
    rw [after_eq (i := .callCcNn cc nn) s (length_imm1 nn)]
    exact ⟨_, rfl, hasEffect_callIf _ _ _ (length_imm1 nn) rfl⟩
  | rstP k =>
    cases h
    rw [restart_times_8]
    exact ⟨_, rfl, hasEffect_call s _ _ rfl⟩
  | calrE8 _ | calrE16 _ | calrE24 _ =>
    cases h
    exact ⟨_, rfl, hasEffect_call s _ _ rfl⟩
  | calrCcE8 _ _ | calrCcE16 _ _ | calrCcE24 _ _ =>
    cases h
    exact ⟨_, rfl, hasEffect_callIf _ _ _ rfl rfl⟩
  | _ => cases h

theorem answers_return {s : State} {i : Instr} {e : Effect} (h : s.returnEffect i = some e) :
    Answers (exec i s) (HasEffect s i e) := by
  cases i with
  | ret | reti =>
    cases h
    exact ⟨_, rfl, hasEffect_popPc⟩
  | retCc cc =>
    cases h
    rw [show exec (.retCc cc) s = execRetCc cc s from rfl, execRetCc]
    cases s.cond cc with
    | true => exact ⟨_, rfl, hasEffect_popPc⟩
    | false => exact ⟨_, rfl, hasEffect_advance rfl⟩
  | retn =>
    cases h
    rw [← withSr_ief1]
    exact ⟨_, rfl, hasEffect_popPc.srUpdate _ _ (by simp [State.returns])⟩
  | _ => cases h

/-- Settles O56. -/
theorem callsAndReturns : Obligations.CallsAndReturns := by
  rintro s i e (h | h)
  · exact answers_call h
  · exact answers_return h

/-! ## Input and output of bytes and words (R650 to R679) -/

section
variable {s : State} {i : Instr} {n : Nat}

theorem hasEffect_afterPortRead (wide : Bool) (a : Long) (hn : (encode i).length = n) :
    HasEffect s i { events := [.portRead wide a (s.portAnswer wide a)], reads := 1 } ((s.advance n).afterPortRead wide a) :=
  (hasEffect_advance hn).afterPortRead wide a rfl rfl rfl

theorem hasEffect_portWrite (wide : Bool) (a : Long) (w : Word) (hn : (encode i).length = n) :
    HasEffect s i { events := [.portWrite wide a w] } ((s.advance n).portWrite wide a w) :=
  (hasEffect_advance hn).portWrite wide a w rfl rfl

/-- R671: a pair's low word takes the word of port (C). -/
theorem hasEffect_inPair (p : Pair) (hn : (encode i).length = n) :
    HasEffect s i
      { writes := [s.putLo p (s.portWord (s.pair .bc))]
        flags := flagsAre (exactInput s.flags (s.portWord (s.pair .bc)))
        events := [.portRead true (s.pair .bc) (s.portAnswer true (s.pair .bc))]
        reads := 1 }
      ((s.advance n).inPair p) := by
  rw [exactInput_word]
  exact ((hasEffect_afterPortRead true _ hn).setPairLo p _ (by simp)).setFlags rfl (by simp)

end

theorem answers_input {s : State} {i : Instr} {e : Effect} (h : s.inputEffect i = some e) :
    Answers (exec i s) (HasEffect s i e) := by
  cases i with
  | inAPortN _ =>
    cases h
    exact ⟨_, rfl, (hasEffect_afterPortRead _ _ rfl).setA _ (by simp)⟩
  | inRPortC r =>
    cases h
    rw [exactInput_byte]
    exact ⟨_, rfl, ((hasEffect_afterPortRead _ _ rfl).setReg8 r _ (by simp)).setFlags rfl (by simp)⟩
  | inaADirNn nn =>
    cases h
    exact ⟨_, rfl, (hasEffect_afterPortRead (i := .inaADirNn nn) _ _ (length_imm2 nn)).setA _ (by simp)⟩
  | inwBcPortC | inwDePortC | inwHlPortC =>
    cases h
    exact ⟨_, rfl, hasEffect_inPair _ rfl⟩
  | inawHlDirNn nn =>
    cases h
    exact ⟨_, rfl, (hasEffect_afterPortRead (i := .inawHlDirNn nn) _ _ (length_imm2 nn)).setPairLo .hl _ (by simp)⟩
  | _ => cases h

theorem answers_output {s : State} {i : Instr} {e : Effect} (h : s.outputEffect i = some e) :
    Answers (exec i s) (HasEffect s i e) := by
  cases i with
  | outPortNA _ | outPortCR _ | outPortCN _ | outwPortCBc | outwPortCDe | outwPortCHl =>
    cases h
    exact ⟨_, rfl, hasEffect_portWrite _ _ _ rfl⟩
  | outaDirNnA nn | outwPortCNn nn | outawDirNnHl nn =>
    cases h
    exact ⟨_, rfl, hasEffect_portWrite _ _ _ (length_imm2 nn)⟩
  | _ => cases h

/-- Settles O57. -/
theorem inputAndOutput : Obligations.InputAndOutput := by
  rintro s i e (h | h)
  · exact answers_input h
  · exact answers_output h

end Sys2Proof.Proofs

namespace Sys2Proof.Machine

open Sys2Proof Sys2Proof.Proofs

/-- R695: C and then B written: both lie in BC. -/
theorem HasEffect.setCThenB {s t : State} {i : Instr} {e : Effect} (h : HasEffect s i e t) (x y : Byte)
    (hl : e.FreshAt s (s.locPair .bc)) :
    HasEffect s i { e with writes := e.writes ++ [(s.locPair .bc, withHi8 (withLo8 (s.pair .bc) x) y)] }
      ((t.setReg8 .c x).setReg8 .b y) := by
  refine h.write ((sameOutside_setPair t .bc _).trans (sameOutside_setPair _ .bc _)) (fun m => ?_) hl.place hl.flags
  have hloc : t.locPair .bc = s.locPair .bc := h.locPair_eq hl.sr .bc
  have hc : (t.setReg8 .c x).pair .bc = withLo8 (s.pair .bc) x := by
    rw [pair_look, ← h.pair_eq hl.sr hl.place]
    exact (look_setPair t .bc _ _).trans (if_pos rfl)
  have hlocc : (t.setReg8 .c x).locReg8 .b = s.locPair .bc := hloc
  rw [look_setReg8, hlocc, look_setReg8, locReg8_c, hloc]
  split
  · rw [pairOf, hc]
    rfl
  · rfl

end Sys2Proof.Machine

namespace Sys2Proof.Proofs

open Sys2Proof Sys2Proof.Machine

section
variable {s : State} {i : Instr} {n : Nat} {g : Option Long} {p : Long}

/-! ## Block input and output of bytes (R655 to R662) -/

/-- D23, U1: Z says that the count is used up, N is 1, and the other flags are open. -/
theorem blockIoFlags_ok {m : Nat} (s : State) (x : BitVec m) {P : Flags → Prop}
    (h : blockFlags (decide (x = 1)) = some P) : P (s.blockIoFlags (x - 1 == 0)) := by
  obtain rfl := Option.some.inj h
  refine ⟨?_, rfl⟩
  have hcount : (x - 1 == 0) = decide (x = 1) := by
    rw [Bool.eq_iff_iff, beq_iff_eq, decide_eq_true_eq]
    exact sub_eq_zero
  exact hcount

theorem byte_left (x : Byte) : (x - 1 != 0) = decide (x ≠ 1) := by
  rw [Bool.eq_iff_iff, bne_iff_ne, decide_eq_true_eq]
  exact sub_ne_zero

theorem hasEffect_inStep (k : Long) (hg : g.getD (s.after i) = p) :
    HasEffect s i
      { writes := [s.putStep .hl k, s.put8 .b (s.reg8 .b - 1)]
        flags := blockFlags (decide (s.reg8 .b = 1))
        store := some (s.pair .hl, 1, zext32 (s.portByte (s.pair .bc)))
        goto := g
        events := [.portRead false (s.pair .bc) (s.portAnswer false (s.pair .bc))]
        reads := 1 }
      ((atPc s p).inStep k) := by
  have hread := (hasEffect_atPc hg).afterPortRead false (s.pair .bc) rfl rfl rfl
  have hstore := hread.writeByte (s.pair .hl) (s.portByte (s.pair .bc)) rfl
  exact ((hstore.stepPair .hl k (by simp)).setReg8 .b (s.reg8 .b - 1) (by simp)).setFlags (blockIoFlags_ok _ _ rfl) (by simp)

/-- R659: the port is BC after B counted. -/
theorem hasEffect_outStep (k : Long) (hg : g.getD (s.after i) = p) :
    HasEffect s i
      { writes := [s.putStep .hl k, s.put8 .b (s.reg8 .b - 1)]
        flags := blockFlags (decide (s.reg8 .b = 1))
        goto := g
        events := [.portWrite false (withHi8 (s.pair .bc) (s.reg8 .b - 1)) ((s.readByte (s.pair .hl)).setWidth 16)] }
      ((atPc s p).outStep k) := by
  have hport : ((atPc s p).setReg8 .b (s.reg8 .b - 1)).pair .bc = withHi8 (s.pair .bc) (s.reg8 .b - 1) := by
    rw [pair_look]
    exact (look_setPair _ .bc _ _).trans (if_pos rfl)
  have hb := (hasEffect_atPc hg).setReg8 .b (s.reg8 .b - 1) (by simp)
  rw [← hport]
  have hout := hb.portWrite false (((atPc s p).setReg8 .b (s.reg8 .b - 1)).pair .bc)
    ((s.readByte (s.pair .hl)).setWidth 16) rfl rfl
  have hall := (hout.stepPair .hl k (by simp)).setFlags (blockIoFlags_ok s (s.reg8 .b) rfl) (by simp)
  exact hall.perm (List.Perm.swap _ _ [])

/-- The byte forms that stay at themselves while B goes on. -/
theorem hasEffect_inStep_repeatIf (k : Long) (hn : (encode i).length = n) :
    HasEffect s i
      { writes := [s.putStep .hl k, s.put8 .b (s.reg8 .b - 1)]
        flags := blockFlags (decide (s.reg8 .b = 1))
        store := some (s.pair .hl, 1, zext32 (s.portByte (s.pair .bc)))
        goto := s.goesOn i (decide (s.reg8 .b ≠ 1))
        events := [.portRead false (s.pair .bc) (s.portAnswer false (s.pair .bc))]
        reads := 1 }
      ((s.inStep k).repeatIf (s.reg8 .b - 1 != 0) n) := by
  have hstep := hasEffect_inStep (s := s) (i := i) (g := some s.pc) k rfl
  rw [byte_left]
  exact hstep.repeatIf rfl hn _ (by simp) (by simp)

theorem hasEffect_outStep_repeatIf (k : Long) (hn : (encode i).length = n) :
    HasEffect s i
      { writes := [s.putStep .hl k, s.put8 .b (s.reg8 .b - 1)]
        flags := blockFlags (decide (s.reg8 .b = 1))
        goto := s.goesOn i (decide (s.reg8 .b ≠ 1))
        events := [.portWrite false (withHi8 (s.pair .bc) (s.reg8 .b - 1)) ((s.readByte (s.pair .hl)).setWidth 16)] }
      ((s.outStep k).repeatIf (s.reg8 .b - 1 != 0) n) := by
  have hstep := hasEffect_outStep (s := s) (i := i) (g := some s.pc) k rfl
  rw [byte_left]
  exact hstep.repeatIf rfl hn _ (by simp) (by simp)

/-! ## Block input and output of words (R673 to R683) -/

theorem hasEffect_inWordStep (k : Long) (hg : g.getD (s.after i) = p) :
    HasEffect s i
      { writes := [s.putStep .hl k, s.putLo .bc (s.count - 1)]
        flags := blockFlags (decide (s.count = 1))
        store := some (s.pair .hl, 2, zext32 (s.portWord (s.pair .de)))
        goto := g
        events := [.portRead true (s.pair .de) (s.portAnswer true (s.pair .de))]
        reads := 1 }
      ((atPc s p).inWordStep k) := by
  have hread := (hasEffect_atPc hg).afterPortRead true (s.pair .de) rfl rfl rfl
  have hstore := hread.writeWord (s.pair .hl) (s.portWord (s.pair .de)) rfl
  have hcount := hstore.setPairLo .bc (s.count - 1) (by simp)
  exact ((hcount.stepPair .hl k (by simp)).setFlags (blockIoFlags_ok s s.count rfl) (by simp)).perm (List.Perm.swap _ _ [])

theorem hasEffect_outWordStep (k : Long) (hg : g.getD (s.after i) = p) :
    HasEffect s i
      { writes := [s.putStep .hl k, s.putLo .bc (s.count - 1)]
        flags := blockFlags (decide (s.count = 1))
        goto := g
        events := [.portWrite true (s.pair .de) (s.readWord (s.pair .hl))] }
      ((atPc s p).outWordStep k) := by
  have hout := (hasEffect_atPc hg).portWrite true (s.pair .de) (s.readWord (s.pair .hl)) rfl rfl
  have hcount := hout.setPairLo .bc (s.count - 1) (by simp)
  exact ((hcount.stepPair .hl k (by simp)).setFlags (blockIoFlags_ok s s.count rfl) (by simp)).perm (List.Perm.swap _ _ [])

/-- The word forms that stay at themselves while BC goes on. -/
theorem hasEffect_inWordStep_repeatIf (k : Long) (hn : (encode i).length = n) :
    HasEffect s i
      { writes := [s.putStep .hl k, s.putLo .bc (s.count - 1)]
        flags := blockFlags (decide (s.count = 1))
        store := some (s.pair .hl, 2, zext32 (s.portWord (s.pair .de)))
        goto := s.goesOn i (decide (s.count ≠ 1))
        events := [.portRead true (s.pair .de) (s.portAnswer true (s.pair .de))]
        reads := 1 }
      ((s.inWordStep k).repeatIf (s.count - 1 != 0) n) := by
  have hstep := hasEffect_inWordStep (s := s) (i := i) (g := some s.pc) k rfl
  rw [count_left]
  exact hstep.repeatIf rfl hn _ (by simp) (by simp)

theorem hasEffect_outWordStep_repeatIf (k : Long) (hn : (encode i).length = n) :
    HasEffect s i
      { writes := [s.putStep .hl k, s.putLo .bc (s.count - 1)]
        flags := blockFlags (decide (s.count = 1))
        goto := s.goesOn i (decide (s.count ≠ 1))
        events := [.portWrite true (s.pair .de) (s.readWord (s.pair .hl))] }
      ((s.outWordStep k).repeatIf (s.count - 1 != 0) n) := by
  have hstep := hasEffect_outWordStep (s := s) (i := i) (g := some s.pc) k rfl
  rw [count_left]
  exact hstep.repeatIf rfl hn _ (by simp) (by simp)

/-! ## The internal I/O space (R691 to R698) -/

theorem hasEffect_inputFlags8 (v : Byte) (hn : (encode i).length = n) :
    HasEffect s i { flags := flagsAre (exactInput s.flags v) } ((s.advance n).setFlags (inputFlags8 s.flags v)) := by
  rw [exactInput_byte]
  exact hasEffect_setFlags s _ hn

/-- R695: one byte from memory to the register at C, with HL, C and B stepped. -/
theorem hasEffect_otStep (k : Long) (j : Byte) (hg : g.getD (s.after i) = p) :
    HasEffect s i
      { writes := s.ioWrites (s.reg8 .c) (s.readByte (s.pair .hl)) ++
          [s.putStep .hl k, (s.locPair .bc, withHi8 (withLo8 (s.pair .bc) (s.reg8 .c + j)) (s.reg8 .b - 1))]
        flags := blockFlags (decide (s.reg8 .b = 1))
        goto := g }
      ((atPc s p).otStep k j) := by
  have hio := (hasEffect_atPc hg).ioWrite (s.reg8 .c) (s.readByte (s.pair .hl)) (by simp)
  have hhl := hio.stepPair .hl k (by simp)
  have hbc := hhl.setCThenB (s.reg8 .c + j) (s.reg8 .b - 1) (by simp)
  have hall := hbc.setFlags (blockIoFlags_ok s (s.reg8 .b) rfl) (by simp)
  exact hall.perm (by simp)

theorem hasEffect_otStep_repeatIf (k : Long) (j : Byte) (hn : (encode i).length = n) :
    HasEffect s i
      { writes := s.ioWrites (s.reg8 .c) (s.readByte (s.pair .hl)) ++
          [s.putStep .hl k, (s.locPair .bc, withHi8 (withLo8 (s.pair .bc) (s.reg8 .c + j)) (s.reg8 .b - 1))]
        flags := blockFlags (decide (s.reg8 .b = 1))
        goto := s.goesOn i (decide (s.reg8 .b ≠ 1)) }
      ((s.otStep k j).repeatIf (s.reg8 .b - 1 != 0) n) := by
  have hstep := hasEffect_otStep (s := s) (i := i) (g := some s.pc) k j rfl
  rw [byte_left]
  exact hstep.repeatIf rfl hn _ (by simp) (by simp)

end

/-- Settles O58. -/
theorem byteBlockInputAndOutput : Obligations.ByteBlockInputAndOutput := by
  intro s i e h
  cases i with
  | ini | ind =>
    cases h
    exact ⟨_, rfl, hasEffect_inStep _ rfl⟩
  | inir | indr =>
    cases h
    exact ⟨_, rfl, hasEffect_inStep_repeatIf _ rfl⟩
  | outi | outd =>
    cases h
    exact ⟨_, rfl, hasEffect_outStep _ rfl⟩
  | otir | otdr =>
    cases h
    exact ⟨_, rfl, hasEffect_outStep_repeatIf _ rfl⟩
  | _ => cases h

/-- Settles O59. -/
theorem wordBlockInputAndOutput : Obligations.WordBlockInputAndOutput := by
  intro s i e h
  cases i with
  | iniw | indw =>
    cases h
    exact ⟨_, rfl, hasEffect_inWordStep _ rfl⟩
  | inirw | indrw =>
    cases h
    exact ⟨_, rfl, hasEffect_inWordStep_repeatIf _ rfl⟩
  | outiw | outdw =>
    cases h
    exact ⟨_, rfl, hasEffect_outWordStep _ rfl⟩
  | otirw | otdrw =>
    cases h
    exact ⟨_, rfl, hasEffect_outWordStep_repeatIf _ rfl⟩
  | _ => cases h

theorem answers_internalIo {s : State} {i : Instr} {e : Effect} (h : s.internalIoEffect i = some e) :
    Answers (exec i s) (HasEffect s i e) := by
  cases i with
  | in0RPortN r _ =>
    cases h
    rw [exactInput_byte]
    exact ⟨_, rfl, (hasEffect_setReg8 r _ rfl).setFlags rfl (by simp)⟩
  | in0PortN _ =>
    cases h
    exact ⟨_, rfl, hasEffect_inputFlags8 _ rfl⟩
  | out0PortNR _ _ =>
    cases h
    exact ⟨_, rfl, (hasEffect_advance rfl).ioWrite _ _ (by simp)⟩
  | tstioN _ =>
    cases h
    exact ⟨_, rfl, hasEffect_logicFlags8 _ _ rfl⟩
  | _ => cases h

theorem answers_internalBlock {s : State} {i : Instr} {e : Effect} (h : s.internalBlockEffect i = some e) :
    Answers (exec i s) (HasEffect s i e) := by
  cases i with
  | otim | otdm =>
    cases h
    exact ⟨_, rfl, hasEffect_otStep _ _ rfl⟩
  | otimr | otdmr =>
    cases h
    exact ⟨_, rfl, hasEffect_otStep_repeatIf _ _ rfl⟩
  | _ => cases h

/-- Settles O60. -/
theorem internalInputAndOutput : Obligations.InternalInputAndOutput := by
  rintro s i e (h | h)
  · exact answers_internalIo h
  · exact answers_internalBlock h

end Sys2Proof.Proofs


namespace Sys2Proof.Proofs

open Sys2Proof Sys2Proof.Machine

/-! ## What is taken at a boundary (R720, R731) -/

/-- R720, R731: NMI is taken where it is latched and no directive is pending. -/
theorem accepted_nmi (s : State) (e : Inputs) : s.accepted e = some .nmi ↔ s.ddir = none ∧ s.nmiPending = true := by
  cases hd : s.ddir with
  | some d => simp [State.accepted, hd]
  | none =>
    cases hn : s.nmiPending with
    | true => simp [State.accepted, hd, hn]
    | false =>
      simp only [State.accepted, hd, hn]
      split_ifs <;> simp_all

/-- R731: the maskable input taken is the first that asks, behind all that shuts the maskable inputs out. -/
theorem accepted_int (s : State) (e : Inputs) (n : Fin 4) : s.accepted e = some (.int n) ↔
    (s.ddir = none ∧ s.nmiPending = false ∧ s.ief1 = true ∧ s.eiShadow = false) ∧
      s.asked e n = true ∧ ∀ m, m < n → s.asked e m = false := by
  by_cases hopen : s.ddir = none ∧ s.nmiPending = false ∧ s.ief1 = true ∧ s.eiShadow = false
  case pos =>
    obtain ⟨hd, hn, hi, hs⟩ := hopen
    simp only [State.accepted, hd, hn, hi, hs]
    fin_cases n <;> simp [Fin.forall_fin_succ] <;> grind
  case neg =>
    refine iff_of_false (fun h => hopen ?_) fun h => hopen h.1
    unfold State.accepted at h
    split_ifs at h <;> simp_all

/-- Settles O12: the events are tried in the order of their priority. -/
theorem acceptedEvent : Obligations.AcceptedEvent := by
  refine fun s e => ⟨accepted_nmi s e, fun n => ?_⟩
  rw [accepted_int]
  simp only [State.asked, State.ief1, Bool.and_eq_true, Bool.and_eq_false_iff]
  grind

/-! ## The stopped processor (R768 to R771) -/

/-- R768, R771: at a quiet boundary a stopped processor idles, and the step counts. -/
theorem step_of_stopped {s : State} (hq : s.quiet) (h : s.halted = true ∨ s.standby = true) :
    step s = .next (s.sampled.idle s.now).tick := by
  obtain ⟨hreset, hacc⟩ := hq
  have hstop : (s.sampled.halted || s.sampled.standby) = true := by simpa [State.sampled] using h
  rw [step, State.cycle, if_neg (by simp [hreset]), hacc]
  exact if_pos hstop

/-- R730: the boundary changes no register but the latch of /NMI. -/
theorem unchanged_sampled (s : State) : Unchanged [.nmiPending] s s.sampled := by
  intro l hl
  cases l with
  | idx k alt y => cases y <;> rfl
  | nmiPending => simp at hl
  | _ => rfl

/-- R768: idling changes nothing but the standby state. -/
theorem look_idle (s : State) (e : Inputs) (l : Loc) (h : l ≠ .standby) : (s.idle e).look l = s.look l := by
  unfold State.idle
  split
  · cases l with
    | idx k alt y => cases y <;> rfl
    | standby => exact absurd rfl h
    | _ => rfl
  · rfl

/-- R771: idling reaches neither memory nor the bus. -/
theorem idle_same (s : State) (e : Inputs) : (s.idle e).mem = s.mem ∧ (s.idle e).ddir = s.ddir ∧
    (s.idle e).busLog = s.busLog ∧ (s.idle e).portIn = s.portIn ∧ (s.idle e).inputs = s.inputs ∧
    (s.idle e).params = s.params := by
  unfold State.idle
  split <;> exact ⟨rfl, rfl, rfl, rfl, rfl, rfl⟩

theorem idle_of_not_standby {s : State} (h : s.standby = false) (e : Inputs) : s.idle e = s := by
  simp [State.idle, h]

/-- Settles O10: a halted processor out of standby idles without any change. -/
theorem haltedChangesNothing : Obligations.HaltedChangesNothing := by
  intro s hq hhalted hstandby
  refine ⟨s.sampled.tick, ?_, fun l hl => ?_, rfl, rfl, rfl, rfl, rfl, rfl, rfl⟩
  · rw [step_of_stopped hq (.inl hhalted), idle_of_not_standby (s := s.sampled) hstandby]
  · rw [look_tick]
    exact unchanged_sampled s l hl

/-- R771: idling ends standby at a bus request that BRXT and LCK let. -/
theorem idle_standby {s : State} (h : s.standby = true) (e : Inputs) :
    (s.idle e).standby = false ↔ e.busReq = true ∧ s.io.smcr.getLsbD 6 = true ∧ s.sr.getLsbD 1 = false := by
  have hwake : (s.standby && e.busReq && s.brxt && !s.lck) = true ↔
      e.busReq = true ∧ s.io.smcr.getLsbD 6 = true ∧ s.sr.getLsbD 1 = false := by
    simp [h, State.brxt, State.lck, and_assoc]
  rw [← hwake, State.idle]
  split
  case isTrue hw => exact iff_of_true rfl hw
  case isFalse hw => exact iff_of_false (by simp [h]) hw

/-- Settles O11: what idling writes is the standby state, whatever it does. -/
theorem standbyWaits : Obligations.StandbyWaits := by
  intro s hq hstandby
  obtain ⟨hmem, hddir, hbus, hport, hinputs, hparams⟩ := idle_same s.sampled s.now
  refine ⟨(s.sampled.idle s.now).tick, step_of_stopped hq (.inr hstandby),
    idle_standby (s := s.sampled) hstandby s.now, ?_, hmem, hddir, hbus, hport, hinputs, hparams⟩
  intro l hl
  simp only [List.mem_cons, List.not_mem_nil, or_false, not_or] at hl
  obtain ⟨hnmi, hst⟩ := hl
  rw [look_tick, look_idle _ _ _ hst]
  exact unchanged_sampled s l (by simpa using hnmi)

/-! ## The entry of NMI (R735) -/

/-- R735: a latched or arriving edge is taken at a boundary without RESET and without a directive. -/
theorem accepted_of_nmi {s : State} (hd : s.ddir = none) (h : s.nmiPending = true ∨ s.now.nmi = true) :
    s.sampled.accepted s.now = some .nmi :=
  (accepted_nmi _ _).2 ⟨hd, by simpa [State.sampled] using h⟩

/-- R735: such a step is the entry of NMI. -/
theorem step_of_nmi {s : State} (hreset : s.now.reset = false) (hd : s.ddir = none)
    (h : s.nmiPending = true ∨ s.now.nmi = true) : step s = .next s.sampled.enterNmi.tick := by
  rw [step_of_accepted hreset (accepted_of_nmi hd h)]
  rfl

/-- R735: the entry of NMI ends with PC and the latch of /NMI written. -/
theorem look_enterNmi (s : State) (l : Loc) (hpc : l ≠ .pc) (hnmi : l ≠ .nmiPending) :
    s.enterNmi.look l = (s.enter false s.ief1 s.pc).look l := by
  have hset : s.enterNmi.look l = ((s.enter false s.ief1 s.pc).setPc 0x66).look l := by
    cases l with
    | idx k alt y => cases y <;> rfl
    | nmiPending => exact absurd rfl hnmi
    | _ => rfl
  rw [hset, look_setPc, if_neg hpc]

/-- R735: where the entry of NMI goes. -/
theorem enterNmi_pc (s : State) : s.enterNmi.pc = 0x66 := by
  have hpc : s.enterNmi.pc = ((s.enter false s.ief1 s.pc).setPc 0x66).pc := rfl
  rw [hpc, setPc_pc]
  exact ringed_zext32_byte _ 0x66

/-- The shared part of an entry holds with the latch of /NMI cleared. -/
theorem entered_without_nmi {s u : State} {b : Bool} (h : Entered s b u) : Entered s b { u with nmiPending := false } := by
  obtain ⟨hhalted, hstandby, hief2, hsr, hsp, hstored, hmem, hrest, hddir, hport, hclock, hparams⟩ := h
  refine ⟨hhalted, hstandby, hief2, hsr, hsp, hstored, hmem, fun l hl => ?_, hddir, hport, hclock, hparams⟩
  rw [← hrest l hl]
  cases l with
  | idx k alt y => cases y <;> rfl
  | nmiPending => simp at hl
  | _ => rfl

/-- Settles O13: the entry is the shared part, with the latch cleared, and PC at 66h. -/
theorem nmiEntry : Obligations.NmiEntry := by
  intro s hreset hd h
  refine ⟨s.sampled.enterNmi.tick, step_of_nmi hreset hd h, { s.sampled.enter false s.ief1 s.pc with nmiPending := false },
    entered_without_nmi (entered_enter s s.ief1), enterNmi_pc _, fun l hl => ?_, rfl, rfl, (enter_ddir _ _ _ _).trans hd,
    enter_inputs _ _ _ _, congrArg (· + 1) (enter_mem_clock _ _ _ _), enter_params _ _ _ _⟩
  rw [look_tick]
  by_cases hnmi : l = .nmiPending
  · subst hnmi
    rfl
  · rw [look_enterNmi _ l hl hnmi]
    cases l with
    | idx k alt y => cases y <;> rfl
    | nmiPending => exact absurd rfl hnmi
    | _ => rfl

/-! ## /INT0 in the modes 0 and 2 (R740, R742) -/

/-- R742: the entry of /INT0 in mode 2. -/
theorem enterEvent_int0_mode2 (s : State) (e : Inputs) (him : s.im = 2) :
    s.enterEvent e (.int 0) = .next (s.enterMaskable.vectorTo (s.mode2Address e.ackVector)) := by
  simp [enterEvent_int0, State.enterInt0, him]

/-- Settles O16: the entry is one jump through the vector table, at an address that the push leaves as it was. -/
theorem modeTwoEntry : Obligations.ModeTwoEntry := by
  intro s hreset hacc him
  exact answers_of_maskable_vectorTo hreset hacc (enterEvent_int0_mode2 _ _ him)

/-- R740: the entry of /INT0 in mode 0. -/
theorem enterEvent_int0_mode0 (s : State) (e : Inputs) (him : s.im = 0) :
    s.enterEvent e (.int 0) = s.enterMode0 e.ackInstr := by
  simp [enterEvent_int0, State.enterInt0, him]

/-- R628: an opcode byte of RST p is one with its bits 7, 6, 2, 1 and 0 set, and p stands in the others. -/
theorem restart_byte (op : Byte) (h : op &&& 0xC7 = 0xC7) : op = 0xC7 ||| ((op.extractLsb' 3 3).setWidth 8 <<< 3) := by
  revert op
  decide

theorem restart_mask : ∀ p : BitVec 3, (0xC7 ||| (p.setWidth 8 <<< 3)) &&& 0xC7 = (0xC7 : Byte) := by decide

/-- R740: where RST p leads in mode 0. -/
theorem restart_field : ∀ p : BitVec 3,
    ((0xC7 ||| (p.setWidth 8 <<< 3)) &&& 0x38 : Byte).setWidth 32 = zext32 p * 8 := by decide

/-- A word is an address that both modes hold. -/
theorem ringed_zext32_word (xm : Bool) (w : Word) : ringed xm (zext32 w) = zext32 w := by
  cases xm with
  | true => rfl
  | false =>
    apply BitVec.eq_of_toNat_eq
    have := w.isLt
    simp [ringed, zext32, lo16]
    omega

theorem enterMode0_restart (s : State) (p : BitVec 3) :
    s.enterMode0 [0xC7 ||| (p.setWidth 8 <<< 3)] = .next (s.enterMaskable.setPc (zext32 p * 8)) := by
  rw [State.enterMode0, if_pos (restart_mask p), restart_field]

theorem enterMode0_call (s : State) (lo hi : Byte) :
    s.enterMode0 [0xCD, lo, hi] = .next (s.enterMaskable.setPc (zext32 (hi ++ lo))) := rfl

theorem restart_target_ringed (xm : Bool) (p : BitVec 3) : ringed xm (zext32 p * 8) = zext32 p * 8 := by
  rw [← restart_field]
  exact ringed_zext32_byte xm _

/-- R740, D21: anything but RST p and CALL nn is refused. -/
theorem enterMode0_refused (s : State) (instr : List Byte) (hrst : ∀ p : BitVec 3, instr ≠ [0xC7 ||| (p.setWidth 8 <<< 3)])
    (hcall : ∀ lo hi : Byte, instr ≠ [0xCD, lo, hi]) : s.enterMode0 instr = .refused .intackInstruction := by
  unfold State.enterMode0
  split
  · next op =>
    refine if_neg fun hop => hrst (op.extractLsb' 3 3) ?_
    exact congrArg (fun b => [b]) (restart_byte op hop)
  · next op lo hi =>
    refine if_neg fun hop => hcall lo hi ?_
    rw [hop]
  · rfl

/-- Settles O14: RST p and CALL nn are the two instructions with an entry, and the third clause is what is left. -/
theorem modeZeroEntry : Obligations.ModeZeroEntry := by
  intro s hreset hacc him
  have hentry := enterEvent_int0_mode0 s.sampled s.now him
  refine ⟨fun p hp => ?_, fun lo hi hc => ?_, fun hrst hcall => ?_⟩
  · rw [hp, enterMode0_restart] at hentry
    exact answers_of_maskable_setPc hreset hacc hentry (restart_target_ringed _ p)
  · rw [hc, enterMode0_call] at hentry
    exact answers_of_maskable_setPc hreset hacc hentry (ringed_zext32_word _ _)
  · rw [step_of_accepted hreset hacc, hentry, enterMode0_refused _ _ hrst hcall]
    rfl

end Sys2Proof.Proofs


namespace Sys2Proof.Proofs

open Sys2Proof Sys2Proof.Machine

/-! ## The step that fetches (R19 (e)) -/

section
variable {s : State} {i : Instr} {rest : List Byte}

/-- R19 (e): a step that fetches runs what it fetches, from the state with the boundary passed. -/
theorem step_of_runs (h : s.runs) : step s = s.sampled.runInstr := by
  obtain ⟨⟨hreset, hacc⟩, hhalted, hstandby⟩ := h
  have hrun : ¬ (s.sampled.halted || s.sampled.standby) = true := by simp [State.sampled, hhalted, hstandby]
  rw [step, State.cycle, if_neg (by simp [hreset]), hacc]
  exact if_neg hrun

/-- The boundary changes nothing that the fetch reads. -/
theorem fetchFrom_sampled (a : Long) (n : Nat) : s.sampled.fetchFrom a n = s.fetchFrom a n := by
  induction n generalizing a with
  | zero => rfl
  | succ n ih =>
    rw [State.fetchFrom, State.fetchFrom, ih]
    rfl

theorem decoded_sampled : s.sampled.decoded = s.decoded := by
  rw [State.decoded, State.decoded]
  exact congrArg (decode s.pendingExt) (fetchFrom_sampled s.pc maxLength)

theorem opcodeSpan_sampled : s.sampled.opcodeSpan = s.opcodeSpan := by
  rw [State.opcodeSpan, State.opcodeSpan]
  exact congrArg (opcodeLength s.pendingExt) (fetchFrom_sampled s.pc maxLength)

/-- R19 (e), item 4: what is decoded and not stale is executed and retired. -/
theorem runInstr_of_decoded (hdec : s.decoded = .ok (i, rest)) (hstale : s.fetchesStale (maxLength - rest.length) = false) :
    s.runInstr = onNext (exec i s) (s.retire i (maxLength - rest.length)) := by
  simp [State.runInstr, hdec, hstale]

/-- R120: what is decoded and stale is refused. -/
theorem runInstr_of_stale (hdec : s.decoded = .ok (i, rest)) (hstale : s.fetchesStale (maxLength - rest.length) = true) :
    s.runInstr = .refused .staleFetch := by
  simp [State.runInstr, hdec, hstale]

/-- R722: what is no instruction and not stale traps. -/
theorem runInstr_of_error {err : DecodeError} (hdec : s.decoded = .error err)
    (hstale : s.fetchesStale s.opcodeSpan = false) : s.runInstr = s.trap := by
  simp [State.runInstr, hdec, hstale]

theorem step_of_runsInstr (h : s.runsInstr i rest) :
    step s = onNext (exec i s.sampled) (s.sampled.retire i (maxLength - rest.length)) := by
  obtain ⟨hruns, hdec, hstale⟩ := h
  rw [step_of_runs hruns]
  exact runInstr_of_decoded (decoded_sampled.trans hdec) hstale

end

/-- Settles O6: the fetch reads the same before and after the boundary is passed. -/
theorem stepRunsDecoded : Obligations.StepRunsDecoded := fun _ _ _ h => step_of_runsInstr h

/-- Settles O20: the bytes of an instruction are asked about before it is executed. -/
theorem staleFetchRefused : Obligations.StaleFetchRefused := by
  intro s i rest hruns hdec hstale
  rw [step_of_runs hruns]
  exact runInstr_of_stale (decoded_sampled.trans hdec) hstale

/-! ## Reset -/

/-- R109: no register of the internal I/O space starts with a bit set that is printed 0 or `-`. -/
theorem reset_io : ∀ a ∈ ioAddresses, (IntIo.reset.get a).getD 0 &&& ~~~ioMask a = 0 := by decide

/-- Settles O1: SR and SP start as 0, and PC as a word. -/
theorem resetMeetsInvariant : Obligations.ResetMeetsInvariant := by
  refine ⟨rfl, rfl, fun _ => ⟨?_, rfl⟩, reset_io⟩
  decide

/-- R53: RESET leaves LMCS0.ERF at 0. -/
theorem reset_erf : IntIo.reset.lmcs0.getLsbD 0 = false := by decide

/-- R60: RESET leaves SMCR.STBY at 0. -/
theorem reset_stby : IntIo.reset.smcr.getLsbD 7 = false := by decide

/-- R790: where RESET is presented, the step is the reset. -/
theorem step_of_reset {s : State} (h : s.now.reset = true) : step s = .next s.sampled.afterReset.tick := if_pos h

/-- Settles O7: the step is the reset, and every field named is one it sets or keeps. -/
theorem resetEntersNativeMode : Obligations.ResetEntersNativeMode := by
  intro s h
  have hzero : ∀ k, (0 : Long).getLsbD k = false := fun _ => BitVec.getLsbD_zero
  exact ⟨_, step_of_reset h, hzero 7, hzero 6, hzero 5, hzero 1, rfl, rfl, rfl, rfl, rfl, rfl, rfl, rfl, rfl, rfl, reset_erf,
    reset_stby, rfl, rfl, rfl, rfl⟩

/-! ## Words of each page -/

/-- R148: a word of page CB, read under any directive. -/
theorem readAs_cb {op : Byte} {i : Instr} (h : lookup cbRows op = some (.done i)) : ReadAs [0xCB, op] i := by
  intro e rest
  have hcb : decode e (0xCB :: op :: rest) = .ok (i, rest) := decodeIn_done h
  exact hcb

/-- Settles O5: each word is one row of its page, and the fields of the last three are read off. -/
theorem wordsDecode : Obligations.WordsDecode := by
  refine ⟨readAs_base (by decide) rfl, readAs_base (by decide) rfl, readAs_cb rfl, readAs_idx .ix (by decide) rfl,
    readAs_idx .iy (by decide) rfl, readAs_ed (by decide) rfl, readAs_ed (by decide) rfl, rfl, rfl, rfl⟩

/-! ## The trap (R722) -/

/-- R722: an unassigned encoding traps, from the state with the boundary passed. -/
theorem step_of_error {s : State} {err : DecodeError} (hruns : s.runs) (hdec : s.decoded = .error err)
    (hstale : s.fetchesStale s.opcodeSpan = false) : step s = s.sampled.trap := by
  have hspan : s.sampled.fetchesStale s.sampled.opcodeSpan = false := by
    rw [opcodeSpan_sampled]
    exact hstale
  rw [step_of_runs hruns]
  exact runInstr_of_error (decoded_sampled.trans hdec) hspan

theorem trap_fault {s : State} (h : s.params.trapEntry = .fault) : s.trap = .fault (.illegalInstruction s.pc) := by
  rw [State.trap, h]

/-- R722: the trap but for PC: the address it saves on the stack, a flag of TRPBK set, and the directive and the shadow of EI
ended. -/
def trapSaved (s : State) : State :=
  (((s.enter s.ief1 s.ief2 s.trapReturn).ioWrite 0x19 (trapFlagged s.io.trpbk)).setDdir none).setEiShadow false

/-- Ending the directive and the shadow of EI does not turn on PC. -/
theorem setPc_then_end (u : State) (v : Long) :
    ((u.setPc v).setDdir none).setEiShadow false = ((u.setDdir none).setEiShadow false).setPc v := rfl

theorem trap_real {s : State} (h : s.params.trapEntry = .real) : s.trap = .next ((trapSaved s).setPc 0).tick := by
  rw [State.trap, h, trapSaved, ← setPc_then_end]

/-- R722: of a running processor the trap saves no state but PC: IEF1 and IEF2 stay, and HALT and standby were 0. -/
theorem look_trapSaved {s : State} (hhalted : s.halted = false) (hstandby : s.standby = false) (l : Loc) (hsp : l ≠ .sp)
    (hio : l ≠ .io 0x19) (hshadow : l ≠ .eiShadow) : (trapSaved s).look l = s.look l := by
  rw [trapSaved, look_setEiShadow, if_neg hshadow, look_setDdir, look_ioWrite, if_neg (fun h => hio h.1), look_enter]
  cases l with
  | idx k alt y => cases y <;> rfl
  | sp => exact absurd rfl hsp
  | sr => exact withSr_ief1_same s.sr
  | halted => exact (congrArg (fun b => zext32 (bit1 b)) hhalted).symm
  | standby => exact (congrArg (fun b => zext32 (bit1 b)) hstandby).symm
  | _ => rfl

/-- R722: TRPBK is writable in every bit. -/
theorem trpbk_ioWrite (u : State) (v : Byte) : (u.ioWrite 0x19 v).io.trpbk = v := BitVec.and_allOnes

theorem trapSaved_trpbk (s : State) : (trapSaved s).io.trpbk = trapFlagged s.io.trpbk := by
  rw [trapSaved, setEiShadow_io, setDdir_io, trpbk_ioWrite]

theorem trapSaved_sp (s : State) : (trapSaved s).sp = s.spDown s.modeBytes := by
  simp [trapSaved, enter_sp]

theorem trapSaved_clock (s : State) : (trapSaved s).clock = s.clock := by simp [trapSaved]

theorem trapSaved_params (s : State) : (trapSaved s).params = s.params := by simp [trapSaved]

theorem readByte_trapSaved (s : State) (x : Long) : (trapSaved s).readByte x = (s.push s.xm s.trapReturn).readByte x := by
  rw [trapSaved, readByte_setEiShadow, readByte_setDdir, readByte_ioWrite, readByte_enter]

/-- D18 (e): the bytes a trap stores are those of a push of the address it saves. -/
theorem stored_trapSaved (s : State) :
    Stored s (trapSaved s) (s.spDown s.modeBytes) s.modeBytes s.trapReturn ∧
      SameMemBut s (trapSaved s) (s.spDown s.modeBytes) s.modeBytes :=
  stored_of_push s.xm s.trapReturn (readByte_trapSaved s)

theorem trapSaved_ddir (s : State) : (trapSaved s).ddir = none := rfl

theorem trapSaved_eiShadow (s : State) : (trapSaved s).eiShadow = false := rfl

/-- Control goes to 0, an address that both modes hold, and the step is counted; nothing else changes. -/
theorem setPc_zero_tick (u : State) : (u.setPc 0).tick.pc = 0 ∧ (∀ l, l ≠ .pc → (u.setPc 0).tick.look l = u.look l) ∧
    (u.setPc 0).tick.mem = u.mem ∧ (u.setPc 0).tick.ddir = u.ddir ∧ (u.setPc 0).tick.eiShadow = u.eiShadow ∧
    (u.setPc 0).tick.clock = u.clock + 1 ∧ (u.setPc 0).tick.params = u.params := by
  refine ⟨ringed_zext32_byte u.xm 0, fun l hl => ?_, rfl, rfl, rfl, rfl, rfl⟩
  rw [look_tick, look_setPc, if_neg hl]

/-- R722: at a running processor the trap changes, besides PC and SP, the flag of TRPBK and the shadow of EI. -/
theorem unchanged_trapSaved {s : State} (hhalted : s.halted = false) (hstandby : s.standby = false) :
    Unchanged [.pc, .sp, .io 0x19, .eiShadow, .nmiPending] s (trapSaved s.sampled) := by
  intro l hl
  simp only [List.mem_cons, List.not_mem_nil, or_false, not_or] at hl
  obtain ⟨-, hlsp, hlio, hlshadow, hlnmi⟩ := hl
  rw [look_trapSaved (s := s.sampled) hhalted hstandby l hlsp hlio hlshadow]
  exact unchanged_sampled s l (by simpa using hlnmi)

/-- Settles O19: the pushed address, the flag of TRPBK and the end of the shadow of EI are all that the trap changes besides
PC. -/
theorem trapEntry : Obligations.TrapEntry := by
  intro s err hruns hdec hstale
  rw [step_of_error hruns hdec hstale]
  refine ⟨fun h => trap_fault h, fun h => ?_⟩
  obtain ⟨-, hhalted, hstandby⟩ := hruns
  have hsp : (trapSaved s.sampled).sp = s.spDown s.modeBytes := trapSaved_sp s.sampled
  have hstored : Stored s (trapSaved s.sampled) (s.spDown s.modeBytes) s.modeBytes s.trapReturn :=
    (stored_trapSaved s.sampled).1
  have hmem : SameMemBut s (trapSaved s.sampled) (s.spDown s.modeBytes) s.modeBytes := (stored_trapSaved s.sampled).2
  have hclock : (trapSaved s.sampled).clock = s.clock := trapSaved_clock s.sampled
  obtain ⟨hpc, hlook, htmem, htddir, htshadow, htclock, htparams⟩ := setPc_zero_tick (trapSaved s.sampled)
  rw [← hsp] at hstored hmem
  exact ⟨_, trap_real h, trapSaved s.sampled, hpc, hsp, hstored, hmem, trapSaved_trpbk _, unchanged_trapSaved hhalted hstandby,
    hclock, hlook, htmem, htddir.trans (trapSaved_ddir _), htshadow.trans (trapSaved_eiShadow _),
    htclock.trans (congrArg (· + 1) hclock), htparams.trans (trapSaved_params _)⟩

/-! ## The directive that is pending (R460) -/

/-- R460: an instruction is a directive exactly if it stands in the list of the eight. -/
theorem directive_cases (s : State) (i : Instr) :
    (∃ d, (i, d) ∈ directives ∧ isDirective i = true ∧ (s.directiveEffect i).bind Effect.ddir = some d) ∨
      isDirective i = false ∧ (s.directiveEffect i).bind Effect.ddir = none := by
  cases i with
  | ddirW | ddirIbW | ddirIwW | ddirIb | ddirLw | ddirIbLw | ddirIwLw | ddirIw =>
    exact .inl ⟨_, by simp [directives], rfl, rfl⟩
  | _ => exact .inr ⟨rfl, rfl⟩

/-- Settles O23: only a directive leaves the pending directive to `retire`, and it leaves the one it is. -/
theorem directiveLastsOneInstruction : Obligations.DirectiveLastsOneInstruction := by
  intro s t i rest hrun ht
  rw [step_of_runsInstr hrun, onNext_eq_next] at ht
  obtain ⟨u, hu, rfl⟩ := ht
  rcases directive_cases s i with ⟨d, hmem, hdir, heff⟩ | ⟨hdir, heff⟩
  · rw [exec_directive _ _ hmem] at hu
    cases hu
    rw [heff]
    exact if_pos hdir
  · rw [heff]
    exact if_neg (by simp [hdir])

/-! ## The lower memory select (R775) -/

/-- R773: the low 16 MiB in the two spellings. -/
theorem inLow16M_iff (a : Long) : inLow16M a = true ↔ a.toNat < 2 ^ 24 := by
  have ha := a.isLt
  rw [inLow16M, beq_iff_eq, ← BitVec.toNat_inj, BitVec.extractLsb'_toNat, Nat.shiftRight_eq_div_pow]
  simp
  omega

/-- R775: mask bit `k` is bit `k + 4` of the pair of select registers. -/
theorem selectMask_bit (r1 r0 : Byte) (k : Nat) : (selectMask r1 r0).getLsbD k = (r1 ++ r0).getLsbD (k + 4) := by
  simp only [selectMask, BitVec.getLsbD_append, BitVec.getLsbD_extractLsb']
  grind

/-- R775: a comparison under a mask succeeds where every bit the mask selects is 0. -/
theorem compare_under_mask (a : Long) (m : BitVec 12) :
    a.extractLsb' 12 12 &&& m = 0 ↔ ∀ k, k < 12 → m.getLsbD k = true → a.getLsbD (k + 12) = false := by
  constructor
  · intro h k hk hm
    have hbit := congrArg (fun v : BitVec 12 => v.getLsbD k) h
    simp only [BitVec.getLsbD_and, BitVec.getLsbD_extractLsb', hm, Bool.and_true, Nat.add_comm 12] at hbit
    simpa [hk] using hbit
  · intro h
    refine BitVec.eq_of_getLsbD_eq fun k hk => ?_
    have := h k hk
    simp only [BitVec.getLsbD_and, BitVec.getLsbD_extractLsb']
    grind

/-- R775: with every mask bit 1 the lowest 4096 bytes of the 16 MiB are left. -/
theorem low_page (a : Long) : (a.toNat < 2 ^ 24 ∧ ∀ k, k < 12 → a.getLsbD (k + 12) = false) ↔ a.toNat ≤ 0xFFF := by
  have hbits : a.extractLsb' 12 12 = 0 ↔ ∀ k, k < 12 → a.getLsbD (k + 12) = false := by
    have hall := compare_under_mask a (BitVec.allOnes 12)
    rw [BitVec.and_allOnes] at hall
    rw [hall]
    refine forall₂_congr fun k hk => ?_
    rw [BitVec.getLsbD_allOnes]
    simp [hk]
  rw [← hbits, ← BitVec.toNat_inj, BitVec.extractLsb'_toNat, Nat.shiftRight_eq_div_pow]
  simp
  omega

/-- R775: LMCS1 = FFh with the high half of LMCS0 set selects every bit. -/
theorem whole_mask {r1 r0 : Byte} (h1 : r1 = 0xFF) (h0 : r0 &&& 0xF0 = 0xF0) (k : Nat) (hk : k < 12) :
    (r1 ++ r0).getLsbD (k + 4) = true := by
  have hbit : ∀ j, (r0 &&& 0xF0).getLsbD j = (0xF0 : Byte).getLsbD j := fun j => by rw [h0]
  rw [BitVec.getLsbD_append]
  by_cases hlow : k < 4
  case pos =>
    have := hbit (k + 4)
    rw [if_pos (by omega)]
    interval_cases k <;> simpa using this
  case neg =>
    rw [if_neg (by omega), h1]
    exact BitVec.getLsbD_allOnes.trans (by simpa using by omega)

/-- Settles O34: the three enables and the comparison under the mask; with the whole mask it is a page of 4096 bytes. -/
theorem lowerMemorySelect : Obligations.LowerMemorySelect := by
  have hmain : ∀ (s : State) (a : Long), (s.selects a).lmcs = true ↔
      a.toNat < 2 ^ 24 ∧ s.io.msmer.getLsbD 7 = true ∧ s.io.msmer.getLsbD 0 = true ∧
        ∀ k, k < 12 → (s.io.lmcs1 ++ s.io.lmcs0).getLsbD (k + 4) = true → a.getLsbD (k + 12) = false := by
    intro s a
    have hsel : (s.selects a).lmcs = true ↔ (s.io.msmer.getLsbD 0 = true ∧ inLow16M a = true) ∧
        s.io.msmer.getLsbD 7 = true ∧ a.extractLsb' 12 12 &&& selectMask s.io.lmcs1 s.io.lmcs0 = 0 := by
      simp [State.selects, State.lowerSelected, State.controllerOn, and_assoc]
    rw [hsel, inLow16M_iff, compare_under_mask]
    simp only [selectMask_bit]
    tauto
  refine ⟨hmain, fun s a henlm hon hhigh hlow => ?_⟩
  have hmask := whole_mask hhigh hlow
  rw [hmain, ← low_page]
  constructor
  · exact fun ⟨ha, _, _, hz⟩ => ⟨ha, fun k hk => hz k hk (hmask k hk)⟩
  · exact fun ⟨ha, hz⟩ => ⟨ha, henlm, hon, fun k hk _ => hz k hk⟩

end Sys2Proof.Proofs


namespace Sys2Proof.Proofs

open Sys2Proof Sys2Proof.Machine

/-! ## What is read back from the stack (R16) -/

/-- Two bytes cut from a long word, put together. -/
theorem bytes_append (v : Long) (k : Nat) : v.extractLsb' (k + 8) 8 ++ v.extractLsb' k 8 = v.extractLsb' k 16 :=
  BitVec.extractLsb'_append_extractLsb'_eq_extractLsb' rfl

/-- R104: where 2 or 4 bytes lie in RAM, they are read back as they were stored. -/
theorem readW_of_stored {s t : State} {a v : Long} (w : Bool) (h : Stored s t a (if w then 4 else 2) v)
    (hram : ∀ k, k < (if w then 4 else 2) → s.kind (a + BitVec.ofNat 32 k) = .ram) : t.readW w a = datum w v := by
  have hbyte : ∀ k, k < (if w then 4 else 2) → t.readByte (a + BitVec.ofNat 32 k) = v.extractLsb' (8 * k) 8 := fun k hk =>
    h k hk (hram k hk)
  have h0 := hbyte 0 (by split <;> omega)
  have h1 := hbyte 1 (by split <;> omega)
  have hlo : t.readWord a = lo16 v := by
    simp only [BitVec.add_zero, Nat.mul_zero] at h0
    have h1' : t.readByte (a + 1) = v.extractLsb' (0 + 8) 8 := h1
    rw [State.readWord, h0, h1', bytes_append]
    rfl
  cases w with
  | false => simp [State.readW, datum, hlo]
  | true =>
    have h2 : t.readByte (a + 2) = v.extractLsb' 16 8 := hbyte 2 (by decide)
    have h3 : t.readByte (a + 3) = v.extractLsb' (16 + 8) 8 := hbyte 3 (by decide)
    have hhi : t.readWord (a + 2) = ext16 v := by
      rw [State.readWord, BitVec.add_assoc, h2]
      exact (congrArg (· ++ v.extractLsb' 16 8) h3).trans (bytes_append v 16)
    have hall : ext16 v ++ lo16 v = v := by
      rw [ext16, lo16, BitVec.extractLsb'_append_extractLsb'_eq_extractLsb' (show 16 = 0 + 16 from rfl)]
      exact BitVec.extractLsb'_eq_self
    have hlong : t.readLong a = ext16 v ++ lo16 v := by rw [State.readLong, hhi, hlo]
    exact hlong.trans hall

/-- R15: `wr_W` of a register's own datum leaves it as it was. -/
theorem wrW_datum (w : Bool) (v : Long) : wrW w v (datum w v) = v := by
  cases w with
  | true => rfl
  | false =>
    refine BitVec.eq_of_getLsbD_eq fun k hk => ?_
    simp only [wrW, datum, withLo16, lo16, zext32, Bool.false_eq_true, if_false, BitVec.getLsbD_append,
      BitVec.getLsbD_extractLsb', BitVec.getLsbD_setWidth]
    grind

/-- R36, R37: what PC and SP hold they can hold. -/
theorem ringed_of_native {xm : Bool} {v : Long} (h : xm = false → ext16 v = 0) : ringed xm v = v := by
  cases xm with
  | true => rfl
  | false =>
    have hv : v.toNat / 2 ^ 16 % 2 ^ 16 = 0 := by
      have := congrArg BitVec.toNat (h rfl)
      rwa [ext16, BitVec.extractLsb'_toNat, Nat.shiftRight_eq_div_pow] at this
    apply BitVec.eq_of_toNat_eq
    have := v.isLt
    simp [ringed, zext32, lo16]
    omega

theorem ringed_datum (xm : Bool) (v : Long) : ringed xm (datum xm v) = ringed xm v := by
  cases xm with
  | true => rfl
  | false =>
    apply BitVec.eq_of_toNat_eq
    simp [ringed, datum, zext32, lo16]

theorem lo16_withLo16 (v : Long) (w : Word) : lo16 (withLo16 v w) = w := by
  refine BitVec.eq_of_getLsbD_eq fun k hk => ?_
  rw [lo16, withLo16, BitVec.getLsbD_extractLsb', BitVec.getLsbD_append]
  simp [hk]

theorem lo16_zext32 (w : Word) : lo16 (zext32 w) = w := by
  apply BitVec.eq_of_toNat_eq
  have := w.isLt
  simp [lo16, zext32]
  omega

/-- R16: a pop takes SP back to where the push of as many bytes found it. -/
theorem spUp_after_spDown {s t : State} {n : Nat} (hxm : t.xm = s.xm) (hsp : t.sp = s.spDown n)
    (hnative : s.xm = false → ext16 s.sp = 0) : t.spUp n = s.sp := by
  rw [State.spUp, hxm, hsp, State.spDown]
  refine Eq.trans ?_ (ringed_of_native hnative)
  cases s.xm with
  | true => simp [ringed, addrAdd]
  | false =>
    have hlo : lo16 (-BitVec.ofNat 32 n) = -lo16 (BitVec.ofNat 32 n) := by
      apply BitVec.eq_of_toNat_eq
      simp [lo16]
      omega
    simp [ringed, addrAdd, lo16_withLo16, lo16_zext32, hlo]

/-! ## POP after PUSH (R286, R289) -/

theorem pushes_answer (s : State) (p : Pair) :
    Answers (exec (.pushQq p) s) (HasEffect s (.pushQq p) (s.pushes s.formatBytes (s.pair p))) :=
  pushesAndPops s _ _ (.inl rfl)

theorem pops_answer (s : State) (p : Pair) :
    Answers (exec (.popQq p) s) (HasEffect s (.popQq p)
      { writes := [(.sp, s.spUp s.formatBytes), s.putW p (s.readW s.lwEff s.sp)] }) :=
  pushesAndPops s _ _ (.inr rfl)

/-- The selected register of a pair stands where SR says. -/
theorem locPair_congr {s t : State} (hsr : t.sr = s.sr) (p : Pair) : t.locPair p = s.locPair p := by
  simp [State.locPair, State.mainBank, State.alt, hsr]

theorem lwEff_congr {s t : State} (hsr : t.sr = s.sr) (hd : t.ddir = s.ddir) : t.lwEff = s.lwEff := by
  simp [State.lwEff, State.lw, hsr, hd]

theorem xm_congr {s t : State} (hsr : t.sr = s.sr) : t.xm = s.xm := by
  simp [State.xm, hsr]

/-- Settles O22: PUSH changes no register but PC and SP, so POP reads back, in the same width, what the pair still holds. -/
theorem popUndoesPush : Obligations.PopUndoesPush := by
  intro s p hinv hram
  obtain ⟨-, -, hnative, -⟩ := hinv
  obtain ⟨t, ht, hpush⟩ := pushes_answer s p
  obtain ⟨-, htsp, htrest, -, ⟨hstored, -⟩, htddir, -⟩ := hpush
  refine ⟨t, ht, ?_⟩
  have hsp : t.sp = s.spDown s.formatBytes := htsp (.sp, _) (List.mem_singleton.2 rfl)
  have hkept : Unchanged [.pc, .sp] s t := htrest
  have hsr : t.sr = s.sr := hkept .sr (by simp)
  have hpair : t.pair p = s.pair p := by
    rw [pair_look, pair_look, locPair_congr hsr]
    exact hkept _ (by simp [State.locPair])
  have hlw : t.lwEff = s.lwEff := lwEff_congr hsr htddir
  have hbytes : t.formatBytes = s.formatBytes := by rw [State.formatBytes, State.formatBytes, hlw]
  have hread : t.readW t.lwEff t.sp = datum t.lwEff (t.pair p) := by
    rw [hpair, hsp, hlw]
    exact readW_of_stored s.lwEff hstored hram
  obtain ⟨w, hw, hpop⟩ := pops_answer t p
  rw [hread, hbytes, spUp_after_spDown (xm_congr hsr) hsp fun hx => (hnative hx).2] at hpop
  obtain ⟨-, hwrites, hwrest, -⟩ := hpop
  refine ⟨w, hw, fun l hpc => ?_⟩
  by_cases hlsp : l = .sp
  · subst hlsp
    exact hwrites (.sp, s.sp) (by simp)
  by_cases hl : l = t.locPair p
  · subst hl
    have hput : w.look (t.locPair p) = wrW t.lwEff (t.pair p) (datum t.lwEff (t.pair p)) := hwrites (t.putW p _) (by simp)
    rw [hput, wrW_datum, pair_look]
    exact hkept _ (by simp [State.locPair])
  · have hlpc : l ≠ .pc := by simpa using hpc
    have hfree : l ∉ [Loc.pc, .sp, t.locPair p] := by
      simp only [List.mem_cons, List.not_mem_nil, or_false, not_or]
      exact ⟨hlpc, hlsp, hl⟩
    exact (hwrest l hfree).trans (hkept l (by simpa [hlsp] using hpc))

/-! ## RETN after the entry of NMI (R735, R627) -/

theorem returns_answer (s : State) : Answers (exec .retn s) (HasEffect s .retn
    { writes := [(.sp, s.spUp s.modeBytes), (.sr, withSr s.sr 0x20 s.ief2)],
      goto := some (ringed s.xm (s.readW s.xm s.sp)) }) :=
  callsAndReturns s _ _ (.inr rfl)

/-- A byte of RAM reads as memory holds it. -/
theorem readByte_of_ram {s : State} {a : Long} (h : s.kind a = .ram) : s.readByte a = s.mem.read a.toNat := by
  simp [State.readByte, State.byteOr, h]

theorem kind_congr {s t : State} (h : t.params = s.params) (a : Long) : t.kind a = s.kind a := by
  rw [State.kind, State.kind, h]

/-- Bytes stored in RAM are those of the memory alone, whatever else changes. -/
theorem stored_of_mem {s u t : State} {a v : Long} {n : Nat} (h : Stored s u a n v) (hmem : t.mem = u.mem)
    (hu : u.params = s.params) (ht : t.params = s.params) : Stored s t a n v := by
  intro k hk hram
  have hbyte := h k hk hram
  rw [readByte_of_ram ((kind_congr hu _).trans hram)] at hbyte
  rw [readByte_of_ram ((kind_congr ht _).trans hram), hmem, hbyte]

theorem ief2_of_look {s t : State} (h : t.look .ief2 = s.look .ief2) : t.ief2 = s.ief2 := by
  revert h
  simp only [State.look]
  cases t.ief2 <;> cases s.ief2 <;> decide

/-- Settles O21: the handler starts with the return address on the stack, IEF1 in IEF2 and the other registers as they were,
and RETN takes back just these. -/
theorem returnUndoesNmi : Obligations.ReturnUndoesNmi := by
  intro s hinv hram hreset hd h
  obtain ⟨-, -, hnative, -⟩ := hinv
  obtain ⟨t, ht, u, hentered, -, hlook, htmem, -, -, -, -, htparams⟩ := nmiEntry s hreset hd h
  obtain ⟨-, -, hief2, husr, husp, hstored, -, hurest, -, -, -, huparams⟩ := hentered
  have hsp : t.sp = s.spDown s.modeBytes := (hlook .sp (by simp)).trans husp
  have hsr : t.sr = withSr s.sr 0x20 false := (hlook .sr (by simp)).trans husr
  have htief2 : t.ief2 = s.ief1 := (ief2_of_look (hlook .ief2 (by simp))).trans hief2
  have hxm : t.xm = s.xm := by
    rw [State.xm, hsr, xm_withSr]
    rfl
  have hbytes : t.modeBytes = s.modeBytes := by rw [State.modeBytes, State.modeBytes, hxm]
  have hread : t.readW t.xm t.sp = datum s.xm s.pc := by
    rw [husp] at hstored
    rw [hsp, hxm]
    exact readW_of_stored s.xm (stored_of_mem hstored htmem huparams htparams) hram
  refine ⟨t, ht, ?_⟩
  obtain ⟨w, hw, hwpc, hwrites, hwrest, -⟩ := returns_answer t
  have hwsp : w.sp = t.spUp t.modeBytes := hwrites (.sp, _) List.mem_cons_self
  have hwsr : w.sr = withSr t.sr 0x20 t.ief2 := hwrites (.sr, _) (List.mem_cons_of_mem _ List.mem_cons_self)
  refine ⟨w, hw, ?_, ?_, ?_, fun l hl => ?_⟩
  · have htarget : w.pc = ringed t.xm (t.readW t.xm t.sp) := hwpc
    rw [htarget, hread, hxm, ringed_datum]
    exact ringed_of_native fun hx => (hnative hx).1
  · rw [hwsp, hbytes]
    exact spUp_after_spDown hxm hsp fun hx => (hnative hx).2
  · rw [hwsr, hsr, htief2, withSr_withSr]
    exact withSr_ief1_same s.sr
  · simp only [List.mem_cons, List.not_mem_nil, or_false, not_or] at hl
    obtain ⟨hpc, hlsp, hlsr, hlief2, hlhalted, hlstandby, hlnmi⟩ := hl
    have hfree : l ∉ [Loc.pc, .sp, .sr] := by simp [hpc, hlsp, hlsr]
    rw [hwrest l hfree, hlook l hpc]
    exact hurest l (by simp [hlsp, hlsr, hlief2, hlhalted, hlstandby, hlnmi])

end Sys2Proof.Proofs


namespace Sys2Proof.Machine

open Sys2Proof

/-! ## States reached without a write of SR -/

/-- The states reached from `s` by the shared operations that leave SR alone: the banks selected stay those of `s`. -/
inductive Moves (s : State) : State → Prop where
  | refl : Moves s s
  | setPc {t : State} {v : Long} (h : Moves s t) : Moves s (t.setPc v)
  | setSp {t : State} {v : Long} (h : Moves s t) : Moves s (t.setSp v)
  | setPair {t : State} {p : Pair} {v : Long} (h : Moves s t) : Moves s (t.setPair p v)
  | setPairAlt {t : State} {p : Pair} {v : Long} (h : Moves s t) : Moves s (t.setPairAlt p v)
  | setA {t : State} {v : Byte} (h : Moves s t) : Moves s (t.setA v)
  | setAAlt {t : State} {v : Byte} (h : Moves s t) : Moves s (t.setAAlt v)
  | setF {t : State} {v : Byte} (h : Moves s t) : Moves s (t.setF v)
  | setIdx {t : State} {y : Idx} {v : Long} (h : Moves s t) : Moves s (t.setIdx y v)
  | setIdxAlt {t : State} {y : Idx} {v : Long} (h : Moves s t) : Moves s (t.setIdxAlt y v)
  | setIreg {t : State} {v : Long} (h : Moves s t) : Moves s (t.setIreg v)
  | setR {t : State} {v : Byte} (h : Moves s t) : Moves s (t.setR v)
  | setHalted {t : State} {b : Bool} (h : Moves s t) : Moves s (t.setHalted b)
  | setStandby {t : State} {b : Bool} (h : Moves s t) : Moves s (t.setStandby b)
  | setDdir {t : State} {d : Option Ddir} (h : Moves s t) : Moves s (t.setDdir d)
  | writeByte {t : State} {a : Long} {v : Byte} (h : Moves s t) : Moves s (t.writeByte a v)
  | afterPortRead {t : State} {wide : Bool} {a : Long} (h : Moves s t) : Moves s (t.afterPortRead wide a)
  | portWrite {t : State} {wide : Bool} {a : Long} {w : Word} (h : Moves s t) : Moves s (t.portWrite wide a w)
  | ioWrite {t : State} {a v : Byte} (h : Moves s t) : Moves s (t.ioWrite a v)

namespace Moves

section
variable {s t : State}

theorem sr_eq (h : Moves s t) : t.sr = s.sr := by
  induction h with
  | refl => rfl
  | _ => assumption

/-- Every shared operation keeps the invariant. -/
theorem invariant (h : Moves s t) (hs : Invariant s) : Invariant t := by
  induction h with
  | refl => exact hs
  | setPc _ ih => exact invariant_setPc _ ih
  | setSp _ ih => exact invariant_setSp _ ih
  | setPair _ ih => exact invariant_setPair _ _ ih
  | setPairAlt _ ih => exact invariant_setPairAlt _ _ ih
  | setA _ ih => exact invariant_setA _ ih
  | setAAlt _ ih => exact invariant_setAAlt _ ih
  | setF _ ih => exact invariant_setF _ ih
  | setIdx _ ih => exact invariant_setIdx _ _ ih
  | setIdxAlt _ ih => exact invariant_setIdxAlt _ _ ih
  | setIreg _ ih => exact invariant_setIreg _ ih
  | setR _ ih => exact invariant_setR _ ih
  | setHalted _ ih => exact invariant_setHalted _ ih
  | setStandby _ ih => exact invariant_setStandby _ ih
  | setDdir _ ih => exact invariant_setDdir _ ih
  | writeByte _ ih => exact invariant_writeByte _ _ ih
  | afterPortRead _ ih => exact invariant_afterPortRead _ _ ih
  | portWrite _ ih => exact invariant_portWrite _ _ _ ih
  | ioWrite _ ih => exact invariant_ioWrite _ _ ih

/-! ### The places that are selected -/

theorem inBank_locPair (hsr : t.sr = s.sr) (p : Pair) : s.inBank (t.locPair p) = true := by
  simp [State.locPair, State.inBank, State.mainBank, hsr]

theorem inBank_locPairAlt (hsr : t.sr = s.sr) (p : Pair) : s.inBank (t.locPairAlt p) = true := by
  simp [State.locPairAlt, State.inBank, State.mainBank, hsr]

theorem inBank_locA (hsr : t.sr = s.sr) : s.inBank t.locA = true := by
  simp [State.locA, State.inBank, State.mainBank, hsr]

theorem inBank_locAAlt (hsr : t.sr = s.sr) : s.inBank t.locAAlt = true := by
  simp [State.locAAlt, State.inBank, State.mainBank, hsr]

theorem inBank_locF (hsr : t.sr = s.sr) : s.inBank t.locF = true := by
  simp [State.locF, State.inBank, State.mainBank, hsr]

theorem idxBank_eq (hsr : t.sr = s.sr) (y : Idx) : t.idxBank y = s.idxBank y := by
  cases y <;> simp [State.idxBank, State.ixBank, State.iyBank, hsr]

theorem inBank_locIdx (hsr : t.sr = s.sr) (y : Idx) : s.inBank (t.locIdx y) = true := by
  simp [State.locIdx, State.inBank, idxBank_eq hsr]

theorem inBank_locIdxAlt (hsr : t.sr = s.sr) (y : Idx) : s.inBank (t.locIdxAlt y) = true := by
  simp [State.locIdxAlt, State.inBank, idxBank_eq hsr]

/-- R33, R34: a place outside the selected banks is none that is written. -/
theorem ne_of_inBank {l m : Loc} (hl : s.inBank l = false) (hm : s.inBank m = true) : l ≠ m := by
  rintro rfl
  rw [hl] at hm
  cases hm

/-- R33, R34: no shared operation reaches a register outside the selected banks. -/
theorem look_eq (h : Moves s t) {l : Loc} (hl : s.inBank l = false) : t.look l = s.look l := by
  induction h with
  | refl => rfl
  | setPc _ ih => rw [look_setPc, if_neg (ne_of_inBank hl rfl), ih]
  | setSp _ ih => rw [look_setSp, if_neg (ne_of_inBank hl rfl), ih]
  | setPair h ih => rw [look_setPair, if_neg (ne_of_inBank hl (inBank_locPair h.sr_eq _)), ih]
  | setPairAlt h ih => rw [look_setPairAlt, if_neg (ne_of_inBank hl (inBank_locPairAlt h.sr_eq _)), ih]
  | setA h ih => rw [look_setA, if_neg (ne_of_inBank hl (inBank_locA h.sr_eq)), ih]
  | setAAlt h ih => rw [look_setAAlt, if_neg (ne_of_inBank hl (inBank_locAAlt h.sr_eq)), ih]
  | setF h ih => rw [look_setF, if_neg (ne_of_inBank hl (inBank_locF h.sr_eq)), ih]
  | setIdx h ih => rw [look_setIdx, if_neg (ne_of_inBank hl (inBank_locIdx h.sr_eq _)), ih]
  | setIdxAlt h ih => rw [look_setIdxAlt, if_neg (ne_of_inBank hl (inBank_locIdxAlt h.sr_eq _)), ih]
  | setIreg _ ih => rw [look_setIreg, if_neg (ne_of_inBank hl rfl), ih]
  | setR _ ih => rw [look_setR, if_neg (ne_of_inBank hl rfl), ih]
  | setHalted _ ih => rw [look_setHalted, if_neg (ne_of_inBank hl rfl), ih]
  | setStandby _ ih => rw [look_setStandby, if_neg (ne_of_inBank hl rfl), ih]
  | setDdir _ ih => rw [look_setDdir, ih]
  | writeByte _ ih => rw [look_writeByte, ih]
  | afterPortRead _ ih => rw [look_afterPortRead, ih]
  | portWrite _ ih => rw [look_portWrite, ih]
  | ioWrite _ ih => rw [look_ioWrite, if_neg (fun h => ne_of_inBank hl rfl h.1), ih]

end

/-! ### The operations built from these -/

section
variable {s t : State}

theorem advance {n : Nat} (h : Moves s t) : Moves s (t.advance n) := .setPc h

theorem setFlags {fl : Flags} (h : Moves s t) : Moves s (t.setFlags fl) := .setF h

theorem setReg8 {r : Reg8} {v : Byte} (h : Moves s t) : Moves s (t.setReg8 r v) := by
  cases r with
  | a => exact .setA h
  | _ => exact .setPair h

theorem setReg8Alt {r : Reg8} {v : Byte} (h : Moves s t) : Moves s (t.setReg8Alt r v) := by
  cases r with
  | a => exact .setAAlt h
  | _ => exact .setPairAlt h

theorem setHalf {y : Idx} {x : Half} {v : Byte} (h : Moves s t) : Moves s (t.setHalf y x v) := by
  cases x <;> exact .setIdx h

theorem setPair4 {p : Pair4} {v : Long} (h : Moves s t) : Moves s (t.setPair4 p v) := by
  cases p with
  | sp => exact .setSp h
  | _ => exact .setPair h

theorem writeWord {a : Long} {w : Word} (h : Moves s t) : Moves s (t.writeWord a w) := .writeByte (.writeByte h)

theorem writeW {w : Bool} {a v : Long} (h : Moves s t) : Moves s (t.writeW w a v) := by
  cases w with
  | false => exact h.writeWord
  | true => exact h.writeWord.writeWord

theorem storeW {a v : Long} (h : Moves s t) : Moves s (t.storeW a v) := h.writeW

theorem setWordOp {x : WordOp} {w : Word} (h : Moves s t) : Moves s (t.setWordOp x w) := by
  cases x with
  | indHl => exact h.writeWord
  | ix | iy => exact .setIdx h
  | bc | de | hl => exact .setPair h

theorem pushW {w : Bool} {a v : Long} (h : Moves s t) : Moves s (t.pushW w a v) := by
  cases w with
  | false => exact .writeByte (.writeByte h)
  | true => exact .writeByte (.writeByte (.writeByte (.writeByte h)))

theorem push {w : Bool} {v : Long} (h : Moves s t) : Moves s (t.push w v) := pushW (.setSp h)

theorem dropped {w : Bool} (h : Moves s t) : Moves s (t.dropped w) := .setSp h

theorem call {ret target : Long} (h : Moves s t) : Moves s (t.call ret target) := .setPc h.push

theorem popPc (h : Moves s t) : Moves s t.popPc := .setPc h.dropped

theorem jumpIf {take : Bool} {n : Nat} {a : Long} (h : Moves s t) : Moves s (t.jumpIf take n a) := by
  cases take with
  | false => exact h.advance
  | true => exact .setPc h

theorem callIf {take : Bool} {n : Nat} {a : Long} (h : Moves s t) : Moves s (t.callIf take n a) := by
  cases take with
  | false => exact h.advance
  | true => exact h.call

theorem repeatIf {again : Bool} {n : Nat} (h : Moves s t) : Moves s (t.repeatIf again n) := by
  cases again with
  | false => exact h.advance
  | true => exact h

theorem copyBytes {dst src : Long} {n : Nat} (h : Moves s t) : Moves s (t.copyBytes dst src n) := by
  induction n with
  | zero => exact h
  | succ n ih => exact .writeByte ih

theorem moveDatum (h : Moves s t) : Moves s t.moveDatum := by
  unfold State.moveDatum
  split
  · exact h.storeW
  · exact h.copyBytes

/-- R349: a step of a word transfer. -/
theorem moveWord {down : Bool} (h : Moves s t) : Moves s (t.moveWord down) := setFlags (.setPair (.setPair (.setPair h.moveDatum)))

end

end Moves

/-! ## States reached with one write of SR at the end -/

/-- The states an instruction leaves: those reached without a write of SR, and those with one write of SR after the others,
which reaches no bit printed 0 and cannot clear XM; IEF2 and the shadow of EI may follow. -/
inductive Runs (s : State) : State → Prop where
  | moves {t : State} (h : Moves s t) : Runs s t
  | srUpdate {t : State} {m v : Long} (hr : m &&& srReserved = 0) (hx : m.getLsbD 7 = true → v.getLsbD 7 = true)
      (h : Moves s t) : Runs s (t.srUpdate m v)
  | setIef2 {t : State} {b : Bool} (h : Runs s t) : Runs s (t.setIef2 b)
  | setEiShadow {t : State} {b : Bool} (h : Runs s t) : Runs s (t.setEiShadow b)

namespace Runs

section
variable {s t : State}

theorem invariant (h : Runs s t) (hs : Invariant s) : Invariant t := by
  induction h with
  | moves h => exact h.invariant hs
  | srUpdate hr hx h => exact invariant_srUpdate _ _ hr hx (h.invariant hs)
  | setIef2 _ ih => exact invariant_setIef2 _ ih
  | setEiShadow _ ih => exact invariant_setEiShadow _ ih

/-- R33, R34: the banks are those selected before the write of SR. -/
theorem look_eq (h : Runs s t) {l : Loc} (hl : s.inBank l = false) : t.look l = s.look l := by
  induction h with
  | moves h => exact h.look_eq hl
  | srUpdate _ _ h => rw [look_srUpdate, if_neg (Moves.ne_of_inBank hl rfl), h.look_eq hl]
  | setIef2 _ ih => rw [look_setIef2, if_neg (Moves.ne_of_inBank hl rfl), ih]
  | setEiShadow _ ih => rw [look_setEiShadow, if_neg (Moves.ne_of_inBank hl rfl), ih]

/-- R41, R444: a write of SR that takes XM from a mask that holds it set cannot clear it. -/
theorem xm_maskedBits_of {m v sr : Long} (hx : m.getLsbD 7 = true → v.getLsbD 7 = true) (h : sr.getLsbD 7 = true) :
    (maskedBits m sr v).getLsbD 7 = true := by
  simp only [maskedBits, BitVec.getLsbD_or, BitVec.getLsbD_and, BitVec.getLsbD_not, h]
  cases hm : m.getLsbD 7 with
  | false => simp
  | true => simp [hx hm]

theorem xm_stays (h : Runs s t) (hs : s.xm = true) : t.xm = true := by
  induction h with
  | moves h => rw [State.xm, h.sr_eq]; exact hs
  | srUpdate _ hx h =>
    refine xm_maskedBits_of hx ?_
    rw [h.sr_eq]
    exact hs
  | setIef2 _ ih => exact ih
  | setEiShadow _ ih => exact ih

theorem srBits {m : Long} {b : Bool} (hr : m &&& srReserved = 0) (hx : m.getLsbD 7 = true → b = true) (h : Moves s t) :
    Runs s (t.srBits m b) := by
  refine .srUpdate hr (fun hm => ?_) h
  rw [if_pos (hx hm)]
  exact hm

theorem srToggle {m : Long} (hr : m &&& srReserved = 0) (hx : m.getLsbD 7 = false) (h : Moves s t) :
    Runs s (t.srToggle m) :=
  .srUpdate hr (fun hm => by rw [hx] at hm; cases hm) h

theorem srWritable_reserved : srWritable &&& srReserved = 0 := by decide

theorem srWritable_xm : srWritable.getLsbD 7 = false := by decide

/-- R444: a legalised write of SR. -/
theorem srWrite {m v : Long} (h : Moves s t) : Runs s (t.srWrite m v) := by
  refine .srUpdate ?_ (fun hm => ?_) h
  · rw [BitVec.and_assoc, srWritable_reserved]
    exact BitVec.and_zero
  · rw [BitVec.getLsbD_and, srWritable_xm, Bool.and_false] at hm
    cases hm

theorem setIm {m : BitVec 2} (h : Moves s t) : Runs s (t.setIm m) :=
  .srUpdate (by decide) (fun hm => absurd hm (by decide)) h

theorem disable (h : Moves s t) : Runs s t.disable := .setIef2 (srBits (by decide) (by decide) h)

theorem enable (h : Moves s t) : Runs s t.enable := .setEiShadow (.setIef2 (srBits (by decide) (by decide) h))

theorem returnNmi (h : Moves s t) : Runs s t.returnNmi :=
  srBits (by decide) (fun hm => absurd hm (by decide)) h.popPc

end

end Runs

end Sys2Proof.Machine


namespace Sys2Proof.Machine

open Sys2Proof

namespace Moves

section
variable {s t : State}

theorem moveByte {k : Long} (h : Moves s t) : Moves s (t.moveByte k) :=
  .setFlags (.setPair (.setPair (.setPair (.writeByte h))))

theorem searchByte {k : Long} (h : Moves s t) : Moves s (t.searchByte k) := .setFlags (.setPair (.setPair h))

theorem inStep {k : Long} (h : Moves s t) : Moves s (t.inStep k) :=
  .setFlags (.setReg8 (.setPair (.writeByte (.afterPortRead h))))

theorem outStep {k : Long} (h : Moves s t) : Moves s (t.outStep k) := .setFlags (.setPair (.portWrite (.setReg8 h)))

theorem inWordStep {k : Long} (h : Moves s t) : Moves s (t.inWordStep k) :=
  .setFlags (.setPair (.setPair (.writeWord (.afterPortRead h))))

theorem outWordStep {k : Long} (h : Moves s t) : Moves s (t.outWordStep k) :=
  .setFlags (.setPair (.setPair (.portWrite h)))

theorem otStep {k : Long} {j : Byte} (h : Moves s t) : Moves s (t.otStep k j) :=
  .setFlags (.setReg8 (.setReg8 (.setPair (.ioWrite h))))

end

end Moves

/-! ## What an instruction answers -/

/-- A next state, if there is one, is reached by the shared operations and at most one write of SR. -/
def Within (s : State) (x : Exec) : Prop := ∀ t, x = .next t → Runs s t

section
variable {s t : State}

theorem within_runs (h : Runs s t) : Within s (.next t) := by
  rintro _ ⟨⟩
  exact h

theorem within_moves (h : Moves s t) : Within s (.next t) := within_runs (.moves h)

theorem within_ite {c : Prop} [Decidable c] {x y : Exec} (hx : Within s x) (hy : Within s y) :
    Within s (if c then x else y) := by
  split
  · exact hx
  · exact hy

/-- R107: a word transfer that is stopped has no next state. -/
theorem within_unlessOdd {u : State} (h : Moves s t) : Within s (u.unlessOdd t) := by
  unfold State.unlessOdd
  split
  · exact within_moves h
  · split
    · rintro _ ⟨⟩
    · rintro _ ⟨⟩
    · exact within_moves h

end

/-- Every instruction, by the shared operations it is made of. -/
theorem exec_within (i : Instr) (s : State) : Within s (exec i s) := by
  cases i with
  | ldDdNn | ldSpXy | ldDdDirNn | ldSpHl | incDd | decDd | mltDd => exact within_moves (.setPair4 (.advance .refl))
  | incR | decR | in0RPortN | rlcR | rrcR | rlR | rrR | slaR | sraR | srlR =>
    exact within_moves (.setFlags (.setReg8 (.advance .refl)))
  | ldRN | ldRR | ldRIndHl | resBR | setBR | ldRHalf | ldRIdxD => exact within_moves (.setReg8 (.advance .refl))
  | ldIndHlN | ldDirNnA | ldIndHlR | resBIndHl | setBIndHl | ldIdxDN | ldIdxDR | resBIdxD | setBIdxD | ldIndBcA |
    ldIndDeA => exact within_moves (.writeByte (.advance .refl))
  | addHlDd | addHlDirNn | addwHlXy | addwHlIdxD | addwHlPp | addwHlNn | adcwHlXy | adcwHlIdxD | adcwHlPp | adcwHlNn |
    adcHlDd | subwHlXy | subwHlIdxD | subwHlPp | subwHlNn | sbcwHlXy | sbcwHlIdxD | sbcwHlPp | sbcwHlNn | sbcHlDd |
    andwHlXy | andwHlIdxD | andwHlPp | andwHlNn | xorwHlXy | xorwHlIdxD | xorwHlPp | xorwHlNn | orwHlXy | orwHlIdxD |
    orwHlPp | orwHlNn | multwHlIdxD | multwHlWop | multwHlNn | multuwHlIdxD | multuwHlWop | multuwHlNn | divuwHlIdxD |
    divuwHlWop | divuwHlNn | subHlDirNn | cplw | negw => exact within_moves (.setFlags (.setPair (.advance .refl)))
  | djnzE8 | djnzE16 | djnzE24 => exact within_moves (.jumpIf (.setReg8 .refl))
  | jrE8 | jpNn | jrE16 | jrE24 | jpIndXy | jpIndHl => exact within_moves (.setPc .refl)
  | jrCcE8 | jpCcNn | jrCcE16 | jrCcE24 => exact within_moves (.jumpIf .refl)
  | ldDirNnHl | ldIndPpXy | ldIndPpUu | ldDirNnXy | ldSpDPp | ldSpDXy | ldIdxDPp | ldIdxDYx | ldIndPpNn | ldDirNnDd =>
    exact within_moves (.storeW (.advance .refl))
  | ldHlDirNn | ldPpXy | ldPpIndUu | ldPpBc | ldPpDe | ldPpHl | ldPpSpD | ldPpIdxD | ldHlI | exts | ldctlHlSr | swapPp
    | extsw => exact within_moves (.setPair (.advance .refl))
  | ldADirNn | ldAIndBc | ldAIndDe | ldctlAXsr | ldctlAYsr | ldctlADsr => exact within_moves (.setA (.advance .refl))
  | addAR | addAN | adcAR | adcAN | addAHalf | addAIdxD | adcAHalf | adcAIdxD | addAIndHl | adcAIndHl | subR | subN |
    sbcAR | sbcAN | subHalf | subIdxD | sbcAHalf | sbcAIdxD | subIndHl | sbcAIndHl | andR | andN | andHalf | andIdxD |
    andIndHl | xorR | xorN | xorHalf | xorIdxD | xorIndHl | orR | orN | orHalf | orIdxD | orIndHl | rlca | rrca | rla
    | rra | daa | cpl | neg | ldAI | ldAR => exact within_moves (.setFlags (.setA (.advance .refl)))
  | cpR | cpN | cpHalf | cpIdxD | cpIndHl | bitBR | bitBIndHl | bitBIdxD | cpwHlXy | cpwHlIdxD | cpwHlPp | cpwHlNn |
    in0PortN | tstioN | scf | ccf | mtest | btest | tstR | tstN | tstIndHl =>
    exact within_moves (.setFlags (.advance .refl))
  | popQq => exact within_moves (.setPair (.dropped (.advance .refl)))
  | callCcNn | calrCcE16 | calrCcE24 | calrCcE8 => exact within_moves (.callIf .refl)
  | pushQq | pushXy | pushNn | pushAf | pushSr => exact within_moves (.push (.advance .refl))
  | rstP | callNn | calrE16 | calrE24 | calrE8 => exact within_moves (.call .refl)
  | outPortNA | outwPortCNn | outawDirNnHl | outPortCR | outPortCN | outaDirNnA | outwPortCBc | outwPortCDe |
    outwPortCHl => exact within_moves (.portWrite (.advance .refl))
  | inAPortN | inaADirNn => exact within_moves (.setA (.afterPortRead (.advance .refl)))
  | exRRAlt => exact within_moves (.setReg8Alt (.setReg8 (.advance .refl)))
  | addXyTt => exact within_moves (.setFlags (.setIdx (.advance .refl)))
  | ldXyIndPp | ldXyPp | ldXyNn | ldXyDirNn | ldXySpD | ldYxIdxD | ldIxIy | ldIyIx | incXy | decXy | swapXy =>
    exact within_moves (.setIdx (.advance .refl))
  | incHalf | decHalf => exact within_moves (.setFlags (.setHalf (.advance .refl)))
  | ldHalfN | ldHalfS => exact within_moves (.setHalf (.advance .refl))
  | incIdxD | incIndHl | decIdxD | decIndHl | rlcIdxD | rrcIdxD | rlIdxD | rrIdxD | slaIdxD | sraIdxD | srlIdxD |
    rlcIndHl | rrcIndHl | rlIndHl | rrIndHl | slaIndHl | sraIndHl | srlIndHl =>
    exact within_moves (.setFlags (.writeByte (.advance .refl)))
  | ldctlSrN | ldctlXsrN | ldctlYsrN | ldctlDsrN | ldctlSrA | ldctlXsrA | ldctlYsrA | ldctlSrHl | ldctlDsrA =>
    exact within_runs (.srWrite (.advance .refl))
  | inawHlDirNn => exact within_moves (.setPair (.afterPortRead (.advance .refl)))
  | popXy => exact within_moves (.setIdx (.dropped (.advance .refl)))
  | exIndSpXy => exact within_moves (.setIdx (.storeW (.advance .refl)))
  | rlcwIdxD | rrcwIdxD | rlwIdxD | rrwIdxD | slawIdxD | srawIdxD | srlwIdxD =>
    exact within_moves (.setFlags (.writeWord (.advance .refl)))
  | rlcwWop | rrcwWop | rlwWop | rrwWop | slawWop | srawWop | srlwWop =>
    exact within_moves (.setFlags (.setWordOp (.advance .refl)))
  | out0PortNR => exact within_moves (.ioWrite (.advance .refl))
  | exAR => exact within_moves (.setReg8 (.setA (.advance .refl)))
  | inRPortC => exact within_moves (.setFlags (.setReg8 (.afterPortRead (.advance .refl))))
  | addSpNn | subSpNn => exact within_moves (.setFlags (.setSp (.advance .refl)))
  | nop => exact within_moves (.advance .refl)
  | exAfAfAlt | exx | exxx | exxy | exall => exact within_runs (.srToggle rfl rfl (.advance .refl))
  | halt => exact within_moves (.setHalted (.advance .refl))
  | popAf => exact within_moves (.setF (.setA (.dropped (.advance .refl))))
  | ret | reti => exact within_moves (.popPc .refl)
  | exIndSpHl => exact within_moves (.setPair (.storeW (.advance .refl)))
  | exDeHl | exBcDe | exBcHl => exact within_moves (.setPair (.setPair (.advance .refl)))
  | di => exact within_runs (.disable (.advance .refl))
  | ei => exact within_runs (.enable (.advance .refl))
  | inwBcPortC | inwDePortC | inwHlPortC => exact within_moves (.setFlags (.setPair (.afterPortRead (.advance .refl))))
  | ldIHl | ldIA => exact within_moves (.setIreg (.advance .refl))
  | ddirW | ddirIbW | ddirIwW | ddirIb | ddirLw | ddirIbLw | ddirIwLw | ddirIw =>
    exact within_moves (.setDdir (.advance .refl))
  | setcLw | rescLw | setcLck | rescLck =>
    exact within_runs (.srBits rfl (fun hm => absurd hm (by decide)) (.advance .refl))
  | setcXm => exact within_runs (.srBits rfl (fun _ => rfl) (.advance .refl))
  | exBcIx | exBcIy | exDeIx | exDeIy | exHlIx | exHlIy => exact within_moves (.setIdx (.setPair (.advance .refl)))
  | exIxIy => exact within_moves (.setIdx (.setIdx (.advance .refl)))
  | exAIndHl => exact within_moves (.setA (.writeByte (.advance .refl)))
  | retn => exact within_runs (.returnNmi .refl)
  | im0 | im1 | im2 | im3 => exact within_runs (.setIm (.advance .refl))
  | ldRA => exact within_moves (.setR (.advance .refl))
  | rrd | rld => exact within_moves (.setFlags (.setA (.writeByte (.advance .refl))))
  | otim | otdm => exact within_moves (.otStep (.advance .refl))
  | otimr | otdmr => exact within_moves (.repeatIf (.otStep .refl))
  | ldi | ldd => exact within_moves (.moveByte (.advance .refl))
  | cpi | cpd => exact within_moves (.searchByte (.advance .refl))
  | ini | ind => exact within_moves (.inStep (.advance .refl))
  | outi | outd => exact within_moves (.outStep (.advance .refl))
  | ldir | lddr => exact within_moves (.repeatIf (.moveByte .refl))
  | cpir | cpdr => exact within_moves (.repeatIf (.searchByte .refl))
  | inir | indr => exact within_moves (.repeatIf (.inStep .refl))
  | otir | otdr => exact within_moves (.repeatIf (.outStep .refl))
  | popSr => exact within_runs (.srWrite (.dropped (.advance .refl)))
  | iniw | indw => exact within_moves (.inWordStep (.advance .refl))
  | inirw | indrw => exact within_moves (.repeatIf (.inWordStep .refl))
  | outiw | outdw => exact within_moves (.outWordStep (.advance .refl))
  | otirw | otdrw => exact within_moves (.repeatIf (.outWordStep .refl))
  | exBcBcAlt | exDeDeAlt | exHlHlAlt => exact within_moves (.setPairAlt (.setPair (.advance .refl)))
  | exIxIxAlt | exIyIyAlt => exact within_moves (.setIdxAlt (.setIdx (.advance .refl)))
  | retCc => exact within_ite (within_moves (.popPc .refl)) (within_moves (.advance .refl))
  | slp => exact within_ite (within_moves (.setStandby (.advance .refl))) (within_moves (.setHalted (.advance .refl)))
  | diN => exact within_ite (within_runs (.disable (.ioWrite (.advance .refl)))) (within_moves (.ioWrite (.advance .refl)))
  | eiN => exact within_ite (within_runs (.enable (.ioWrite (.advance .refl)))) (within_moves (.ioWrite (.advance .refl)))
  | ldiw | lddw => exact within_unlessOdd (.moveWord (.advance .refl))
  | ldirw | lddrw => exact within_unlessOdd (.repeatIf (.moveWord .refl))

end Sys2Proof.Machine


namespace Sys2Proof.Proofs

open Sys2Proof Sys2Proof.Machine

/-- Settles O9: an instruction writes registers through the selectors, and those of SR after everything else. -/
theorem otherBanksStay : Obligations.OtherBanksStay := fun i s t h _ hl => (exec_within i s t h).look_eq hl

/-! ## What a step can do -/

/-- R19 (e): the next states of a step: after RESET, an entry, an idle step of a stopped processor, an instruction, a trap. -/
inductive Stepped (s : State) : State → Prop where
  | reset (h : s.now.reset = true) : Stepped s s.sampled.afterReset.tick
  | nmi : Stepped s s.sampled.enterNmi.tick
  | maskable (v : Long) : Stepped s (s.sampled.enterMaskable.setPc v).tick
  | idle : Stepped s (s.sampled.idle s.now).tick
  | instr (i : Instr) (n : Nat) {u : State} (h : Runs s.sampled u) : Stepped s (s.sampled.retire i n u)
  | trap : Stepped s ((trapSaved s.sampled).setPc 0).tick

section
variable {s t : State}

/-- R740: mode 0 has no entry but one that ends in a write of PC. -/
theorem enterMode0_next {instr : List Byte} (h : s.enterMode0 instr = .next t) : ∃ v, t = s.enterMaskable.setPc v := by
  unfold State.enterMode0 at h
  split at h
  · split at h
    · cases h
      exact ⟨_, rfl⟩
    · cases h
  · split at h
    · cases h
      exact ⟨_, rfl⟩
    · cases h
  · cases h

/-- R735 to R745: an entry is that of NMI, or the common part of the maskable inputs with PC at its target. -/
theorem enterEvent_next {e : Inputs} {ev : Event} (h : s.enterEvent e ev = .next t) :
    t = s.enterNmi ∨ ∃ v, t = s.enterMaskable.setPc v := by
  cases ev with
  | nmi =>
    cases h
    exact .inl rfl
  | int n =>
    right
    by_cases hn : n = 0
    · subst hn
      rw [enterEvent_int0] at h
      unfold State.enterInt0 at h
      split_ifs at h
      · exact enterMode0_next h
      all_goals
        cases h
        exact ⟨_, rfl⟩
    · rw [enterEvent_assigned _ _ hn] at h
      cases h
      exact ⟨_, rfl⟩

/-- R722: the trap under `TRAP_ENTRY` = real is the only one with a next state. -/
theorem trap_next (h : s.trap = .next t) : t = ((trapSaved s).setPc 0).tick := by
  cases hp : s.params.trapEntry with
  | fault =>
    rw [trap_fault hp] at h
    cases h
  | real =>
    rw [trap_real hp] at h
    cases h
    rfl

theorem stepped_of_runInstr (h : s.sampled.runInstr = .next t) : Stepped s t := by
  unfold State.runInstr at h
  split at h
  case h_1 i rest hdec =>
    split at h
    · cases h
    · obtain ⟨u, hu, rfl⟩ := (onNext_eq_next _ _ _).1 h
      exact .instr i _ (exec_within i s.sampled u hu)
  case h_2 err hdec =>
    split at h
    · cases h
    · rw [trap_next h]
      exact .trap

theorem stepped_of_step (h : step s = .next t) : Stepped s t := by
  unfold step State.cycle at h
  split at h
  case isTrue hreset =>
    cases h
    exact .reset hreset
  case isFalse =>
    split at h
    case h_1 ev hacc =>
      obtain ⟨u, hu, rfl⟩ := (onNext_eq_next _ _ _).1 h
      obtain rfl | ⟨v, rfl⟩ := enterEvent_next hu
      · exact .nmi
      · exact .maskable v
    case h_2 =>
      split at h
      · cases h
        exact .idle
      · exact stepped_of_runInstr h

end

/-! ## Extended mode (R41, R444) -/

theorem idle_sr (s : State) (e : Inputs) : (s.idle e).sr = s.sr := by
  unfold State.idle
  split <;> rfl

theorem trapSaved_xm (s : State) : (trapSaved s).xm = s.xm := by
  have hsr : (trapSaved s).sr = (s.enter s.ief1 s.ief2 s.trapReturn).sr := by simp [trapSaved]
  rw [xm_congr hsr, enter_xm]

/-- A write of PC and the count of a step keep the mode. -/
theorem setPc_xm_tick (u : State) (v : Long) : (u.setPc v).tick.xm = u.xm := rfl

/-- Settles O8: the entries and the trap write IEF1 only, and no instruction clears XM. -/
theorem extendedModeStays : Obligations.ExtendedModeStays := by
  intro s t hreset hxm h
  cases stepped_of_step h with
  | reset hr =>
    rw [hreset] at hr
    cases hr
  | nmi => exact ((setPc_xm_tick _ 0x66).trans (enter_xm s.sampled _ _ _)).trans hxm
  | maskable v => exact ((setPc_xm_tick _ _).trans (enter_xm s.sampled _ _ _)).trans hxm
  | idle => exact (xm_congr (idle_sr s.sampled s.now)).trans hxm
  | instr i n hrun => exact hrun.xm_stays hxm
  | trap => exact ((setPc_xm_tick _ _).trans (trapSaved_xm s.sampled)).trans hxm

/-! ## The invariant -/

section
variable {s : State}

theorem ext16_zero : ext16 0 = 0 := by decide

/-- R790: RESET leaves PC a word, SR and SP 0, and every reserved bit of the internal I/O space 0. -/
theorem invariant_afterReset (h : Invariant s) : Invariant s.afterReset := by
  obtain ⟨hmem, -, -, -⟩ := h
  refine ⟨hmem, BitVec.zero_and, fun _ => ⟨?_, ext16_zero⟩, reset_io⟩
  have hpc : s.afterReset.pc = ringed false s.afterReset.pc := (ringed_zext32_word false s.params.resetPc).symm
  rw [hpc]
  exact ext16_ringed _

theorem invariant_enterNmi (h : Invariant s) : Invariant s.enterNmi :=
  invariant_congr (invariant_setPc 0x66 (invariant_enter false s.ief1 s.pc h)) rfl rfl rfl rfl rfl

theorem invariant_idle (e : Inputs) (h : Invariant s) : Invariant (s.idle e) := by
  unfold State.idle
  split
  · exact invariant_congr h rfl rfl rfl rfl rfl
  · exact h

theorem invariant_trapSaved (h : Invariant s) : Invariant (trapSaved s) :=
  invariant_setEiShadow _ (invariant_setDdir _ (invariant_ioWrite _ _ (invariant_enter _ _ _ h)))

theorem invariant_retire (i : Instr) (n : Nat) {u : State} (h : Invariant u) : Invariant (s.retire i n u) :=
  invariant_congr h rfl rfl rfl rfl rfl

end

/-- Settles O2: each of the six ways of a step keeps the invariant. -/
theorem stepKeepsInvariant : Obligations.StepKeepsInvariant := by
  intro s t hs h
  have hs := invariant_sampled hs
  cases stepped_of_step h with
  | reset _ => exact invariant_tick (invariant_afterReset hs)
  | nmi => exact invariant_tick (invariant_enterNmi hs)
  | maskable v => exact invariant_tick (invariant_setPc v (invariant_enter _ _ _ hs))
  | idle => exact invariant_tick (invariant_idle _ hs)
  | instr i n hrun => exact invariant_retire i n (hrun.invariant hs)
  | trap => exact invariant_tick (invariant_setPc 0 (invariant_trapSaved hs))

end Sys2Proof.Proofs
